-- ==== Sys2Proof/Config.lean ====
section
/-! DEFINITION. The parameters of 00_scope.md: the named constants of R6 and R8, and the two that
the spec leaves open (R7), which are constants without a body. A constant that stands in a type is
an abbreviation, so that the type reads as the width it is; every other definition and type takes
its number from here (R6, decision D30). -/

namespace Sys2Proof

/-- A direction of motion; the type of `BOTH_PRESSED_DIR` (R8). -/
inductive Direction where
  | up
  | down
deriving DecidableEq, Repr

namespace Config

/-! ## Parameters with a value (R6) -/

/-- `WINDOW_SIZE`, cells. -/
@[simp] abbrev windowSize : Nat := 32
/-- `PATTERN_LEN`, bits. -/
@[simp] abbrev patternLen : Nat := 23
/-- `FIELD_OFFSET`, a window index. -/
def fieldOffset : Nat := 23
/-- `FIELD_LEN`, bits. -/
@[simp] abbrev fieldLen : Nat := 8
/-- `CYCLE`, microseconds. -/
def cycle : Nat := 1000
/-- `HALF`, microseconds. -/
def half : Nat := 500
/-- `H_MIN`, centimetres. -/
def hMin : Nat := 60
/-- `H_MAX`, centimetres. -/
def hMax : Nat := 120
/-- `MAX_DELTA`, centimetres. -/
def maxDelta : Nat := 5
/-- `HEIGHT_UNKNOWN`, the sentinel of CurrentHeight. -/
def heightUnknown : Nat := 0
/-- `UP_OFFSET`, centimetres. -/
def upOffset : Int := 1
/-- `DOWN_OFFSET`, centimetres. -/
def downOffset : Int := 2
/-- `PUB_INTERVAL`, seconds. -/
def pubInterval : Nat := 5

/-! ## Parameters the spec introduces (R8). `T_BBM` has no value and no
rule depends on it. -/

/-- `TW`, bits of a signed target (decision D9). -/
@[simp] abbrev targetWidth : Nat := 16
/-- `T_PASS`, microseconds. -/
def tPass : Nat := 1
/-- `CYCLE_PASSES = CYCLE / T_PASS` (decision D1). -/
def cyclePasses : Nat := cycle / tPass
/-- `HALF_PASSES = HALF / T_PASS` (decisions D1, D5). -/
def halfPasses : Nat := half / tPass
/-- `PUB_PASSES = PUB_INTERVAL / T_PASS` (decisions D1, D18). -/
def pubPasses : Nat := pubInterval * 1000000 / tPass
/-- `BOTH_PRESSED_DIR` (decision D12). -/
def bothPressedDir : Direction := .up
/-- `WINDOW_RESET` (decision D6). -/
def windowReset : BitVec windowSize := 0#windowSize

end Config

/-! ## Parameters without a value (R7) -/

/-- The open parameters of R7. Every operation that depends on one takes this record as an
argument, as R7 asks; `Config.params` is the hardware's. -/
structure Params where
  /-- `SYNC_PATTERN = P[0..22]`. -/
  syncPattern : BitVec Config.patternLen
  /-- `MAX_HEIGHT`, centimetres. -/
  maxHeight : Int
deriving DecidableEq, Repr

namespace Config

/-- `SYNC_PATTERN`: OPEN (92 D17). A free value: nothing in Lean can evaluate it. -/
opaque syncPattern : BitVec patternLen

/-- `MAX_HEIGHT`: OPEN (92 D16). A free value: nothing in Lean can evaluate it. -/
opaque maxHeight : Int

/-- The hardware's open parameters. -/
def params : Params := { syncPattern := syncPattern, maxHeight := maxHeight }

end Config
end Sys2Proof
end

