-- ==== Sys2Proof/Word.lean ====
section
/-! DEFINITION. The words of the block: port words, the window register and the numbers the rules
name, each at the width of 10_state.md R20 and 30_encoding.md R73, R74. -/

namespace Sys2Proof

/-- A SensorBit, a pin level or a relay value: 0 is `false`, 1 is `true` (R11). -/
abbrev Bit := Bool

/-- BitWindow `W[0..31]` (R23). Cell `i` of the logical order is bit `i` of the register, so bit 0
is the head (oldest) and bit 31 the tail (newest). -/
abbrev Window := BitVec Config.windowSize

/-- SyncPattern `P[0..22]` (R24); `P[i]` is bit `i`. -/
abbrev SyncPattern := BitVec Config.patternLen

/-- The height field of a frame, `raw` or its complement (R72). -/
abbrev FieldByte := BitVec Config.fieldLen

/-- A target or a command operand, two's complement (R26, R80). -/
abbrev Target := BitVec Config.targetWidth

/-- The pass input word `PIW` (R73). -/
abbrev PortIn := BitVec 20

/-- The pass output word `POW` (R74). -/
abbrev PortOut := BitVec 19

end Sys2Proof
end

