-- ==== Sys2Proof/Syntax.lean ====
section
/-! DEFINITION. The operations of the block: one constructor of `Instr` for each row of
spec/opcode_table.json. The block stores no program; an `Instr` is one application of an operation
with its operands (00_scope.md R10, 30_encoding.md R76). -/

namespace Sys2Proof

/-- The operations. Operands are those of the column "operands" of R76 and of each operation's own
rule; a value an operation reads from the state is no operand here. -/
inductive Instr where
  /-- FRAME (R70, R79): the 32 wire bits of a frame with field byte `raw` (the height inverted) and
  the trailing bit `tail`, the ignored cell 31. -/
  | frame (raw : FieldByte) (tail : Bit)
  /-- EDGE (R101). Its table row's field `line` belongs to the enabling condition, the edge detector
  of R100; the operation has no operand. -/
  | edge
  /-- TICK (R102); its operand is the transient `edge` of the pass (R76, R104). -/
  | tick (edge : Bit)
  /-- SAMPLE (R103); `line` is `PIW[0]`. -/
  | sample (line : Bit)
  /-- PUSHBIT (R120). -/
  | pushbit (bit : Bit)
  /-- CHECKMATCH (R121). -/
  | checkmatch
  /-- EXTRACT (R123). -/
  | extract
  /-- ACCEPT (R140); the candidate is an unsigned 8-bit number of centimetres. -/
  | accept (candidate : Nat)
  /-- SETTARGET (R154); `n` is a signed 16-bit number of centimetres (R80). -/
  | settarget (n : Int)
  /-- SWITCH (R156); pin levels, 0 is pressed. -/
  | switch (upN downN : Bit)
  /-- CTLTICK (R155). -/
  | ctltick
  /-- PUBLISH (R190). -/
  | publish
  /-- ENTER_UP (R151), a micro-operation. -/
  | enterUp
  /-- ENTER_DOWN (R152), a micro-operation. -/
  | enterDown
  /-- STOP (R153), a micro-operation. -/
  | stop
  /-- DECODE (R125), the composite of a firing pass. -/
  | decode (bit : Bit)
  /-- PASS (R180) with the five fields of `PIW` (R73). -/
  | pass (line swDownN swUpN : Bit) (cmdTarget : Target) (cmdValid : Bit)
  /-- RESET (R185). -/
  | reset
deriving DecidableEq, Repr

/-- The formats of spec/opcode_table.json. -/
inductive Format where
  | wire
  | pin
  | int
  | micro
  | seq
deriving DecidableEq, Repr

/-- The table's format of an operation's row. -/
def Instr.format : Instr → Format
  | .frame _ _ => .wire
  | .edge => .pin
  | .tick _ => .int
  | .sample _ => .pin
  | .pushbit _ => .int
  | .checkmatch => .int
  | .extract => .int
  | .accept _ => .int
  | .settarget _ => .pin
  | .switch _ _ => .pin
  | .ctltick => .int
  | .publish => .int
  | .enterUp => .micro
  | .enterDown => .micro
  | .stop => .micro
  | .decode _ => .seq
  | .pass _ _ _ _ _ => .seq
  | .reset => .seq

end Sys2Proof
end

