-- ==== Sys2Proof/WellFormed.lean ====
section
/-! DEFINITION. Which operand values the hardware can carry, and which operations may stand as a
line of a stimulus program. -/

namespace Sys2Proof

/-- The operands fit their wires: a command operand is `sext_16` of 16 bits (R80), a candidate is
8 bits unsigned (R32, R140). Every other operand fits by its type. -/
def Instr.wf : Instr → Bool
  | .settarget n => decide (-2 ^ (Config.targetWidth - 1) ≤ n ∧ n < 2 ^ (Config.targetWidth - 1))
  | .accept c => decide (c < 2 ^ Config.fieldLen)
  | .frame _ _ => true
  | .edge => true
  | .tick _ => true
  | .sample _ => true
  | .pushbit _ => true
  | .checkmatch => true
  | .extract => true
  | .switch _ _ => true
  | .ctltick => true
  | .publish => true
  | .enterUp => true
  | .enterDown => true
  | .stop => true
  | .decode _ => true
  | .pass _ _ _ _ _ => true
  | .reset => true

/-- Which operations may stand as an operation-level line (log 4: DESIGN CHOICE). R79 lists EDGE,
TICK, PUSHBIT, CHECKMATCH, EXTRACT, ACCEPT, SETTARGET, SWITCH, CTLTICK and PUBLISH there. The model
admits SAMPLE, DECODE, FRAME, PASS, RESET and TICK in a pass with an edge as well; a PASS or RESET
that stands so runs on its operands, and its levels never stand on the ports. The micro-operations,
which only other operations call (R76), are not admitted. -/
def Instr.isLine (i : Instr) : Bool :=
  decide (i.format ≠ .micro)

/-- A well-formed operation-level line, of R79 or of those that log 4 adds. -/
def Instr.wfLine (i : Instr) : Bool :=
  i.wf && i.isLine

end Sys2Proof
end

