-- ==== Sys2Proof/Decode.lean ====
section
/-! DEFINITION. The encodings of 30_encoding.md: the fields of `PIW` (R73), the frame on the wire
(R70, R72), which operation a word selects (R76), and the encoder. Decoding is total and rejects by
name. -/

namespace Sys2Proof

/-! ## The fields of `PIW` (R73) -/

/-- `PIW[0]`, the sensor line. -/
def portLine (w : PortIn) : Bit := w.getLsbD 0
/-- `PIW[1]`, the down switch, active-low. -/
def portDownN (w : PortIn) : Bit := w.getLsbD 1
/-- `PIW[2]`, the up switch, active-low. -/
def portUpN (w : PortIn) : Bit := w.getLsbD 2
/-- `PIW[18:3]`, the command operand's 16 bits. -/
def portTarget (w : PortIn) : Target := w.extractLsb' 3 Config.targetWidth
/-- `PIW[19]`, the command's valid bit. -/
def portValid (w : PortIn) : Bit := w.getLsbD 19

/-- `PIW` from its fields: the formula of R79's line `PASS`. -/
def encodePort (line swDownN swUpN : Bit) (cmdTarget : Target) (cmdValid : Bit) : PortIn :=
  BitVec.ofNat 20 (line.toNat + 2 * swDownN.toNat + 4 * swUpN.toNat + 8 * cmdTarget.toNat
    + 0x80000 * cmdValid.toNat)

/-! ## The frame (R70, R72) -/

/-- The 32 cells of a frame: the pattern at 0 to 22, the field at 23 to 30, the tail at 31. -/
def frameCells (p : SyncPattern) (raw : FieldByte) (tail : Bit) : Window :=
  BitVec.ofNat Config.windowSize (p.toNat + 2 ^ Config.fieldOffset * raw.toNat
    + 2 ^ (Config.windowSize - 1) * tail.toNat)

/-! ## Code words -/

/-- Why a word is not the code of an operation. -/
inductive DecodeError where
  /-- No row of the table has a word of this many bits (R78). -/
  | noRowOfThisLength (nbits : Nat)
  /-- The number has bits above the word's length (R78). -/
  | bitsAboveTheWord
  /-- `PIW[19] = 0`: the row SETTARGET is not selected (R76). -/
  | noCommandPresented
  /-- The window's first 23 cells are not SyncPattern, so it is not a frame (R77 item a). -/
  | notAFrame
deriving DecidableEq, Repr

/-- The three kinds of code the spec has: the port levels of one clock period, a port word read as
the row that its bits select, and the 32 cells of a frame. -/
inductive CodeWord where
  /-- The levels of `rst` and `PIW` in one period (R73). -/
  | period (rst : Bit) (piw : PortIn)
  /-- A port word read for the one row with a mask, SETTARGET (R76). -/
  | command (piw : PortIn)
  /-- The 32 cells of a frame, in time order from bit 0 (R70). -/
  | wire (cells : Window)
deriving DecidableEq, Repr

/-- What a clock period runs: RESET when `rst = 1`, whatever `PIW` is, else PASS (R76, R185). -/
def decodePeriod (rst : Bit) (piw : PortIn) : Instr :=
  if rst then .reset
  else .pass (portLine piw) (portDownN piw) (portUpN piw) (portTarget piw) (portValid piw)

/-- SETTARGET with `n = sext_16(PIW[18:3])` when `PIW[19] = 1` (R76, R80). -/
def decodeCommand (piw : PortIn) : Except DecodeError Instr :=
  if portValid piw then .ok (.settarget (portTarget piw).toInt) else .error .noCommandPresented

/-- A window is a frame when its cells 0 to 22 are SyncPattern (R70, R122). -/
def decodeWire (p : SyncPattern) (cells : Window) : Except DecodeError Instr :=
  if cells.extractLsb' 0 Config.patternLen = p then
    .ok (.frame (cells.extractLsb' Config.fieldOffset Config.fieldLen)
      (cells.getLsbD (Config.windowSize - 1)))
  else .error .notAFrame

/-- The decoder. -/
def decode (p : SyncPattern) : CodeWord → Except DecodeError Instr
  | .period rst piw => .ok (decodePeriod rst piw)
  | .command piw => decodeCommand piw
  | .wire cells => decodeWire p cells

/-- The code word of an operation that has one. The rows with an empty mask and no place in a
period of their own (R76: "no `PIW` bit selects the operation") have none. A command is written
with the line low and both switches released, as in R73's example; RESET ignores `PIW`. -/
def encode (p : SyncPattern) : Instr → Option CodeWord
  | .frame raw tail => some (.wire (frameCells p raw tail))
  | .edge => none
  | .tick _ => none
  | .sample _ => none
  | .pushbit _ => none
  | .checkmatch => none
  | .extract => none
  | .accept _ => none
  | .settarget n => some (.command (encodePort false true true (BitVec.ofInt Config.targetWidth n) true))
  | .switch _ _ => none
  | .ctltick => none
  | .publish => none
  | .enterUp => none
  | .enterDown => none
  | .stop => none
  | .decode _ => none
  | .pass line swDownN swUpN cmdTarget cmdValid =>
      some (.period false (encodePort line swDownN swUpN cmdTarget cmdValid))
  | .reset => some (.period true 0#20)

/-! ## Words numbered as spec/opcode_table.json numbers them -/

/-- The code word that `nbits` bits of the number `w` are: 32 bits are the cells of a frame, 20 bits
(24 in whole bytes) a port word. A port word with bit 19 set is read as the only row whose mask
that bit is, SETTARGET; any other as the levels of a period without reset, PASS. -/
def tableWord (nbits w : Nat) : Except DecodeError CodeWord :=
  if nbits = Config.windowSize then
    if w < 2 ^ Config.windowSize then .ok (.wire (BitVec.ofNat Config.windowSize w)) else .error .bitsAboveTheWord
  else if nbits = 20 ∨ nbits = 24 then
    if w < 2 ^ 20 then
      if w.testBit 19 then .ok (.command (BitVec.ofNat 20 w))
      else .ok (.period false (BitVec.ofNat 20 w))
    else .error .bitsAboveTheWord
  else .error (.noRowOfThisLength nbits)

/-- The instruction the decoder reads from a table word, or the reason it refuses. -/
def decodeTable (nbits w : Nat) : Except DecodeError Instr :=
  match tableWord nbits w with
  | .ok c => decode Config.syncPattern c
  | .error e => .error e

/-- The instruction the decoder reads from a table word. -/
def decodeTableWord (nbits w : Nat) : Option Instr :=
  match decodeTable nbits w with
  | .ok i => some i
  | .error _ => none

/-! ## The operation map (R76): what selects each operation inside a pass -/

/-- The places of a pass at which an operation may run, in the order of R180. -/
inductive Slot where
  | edge
  | tick
  | sample
  | pushbit
  | checkmatch
  | extract
  | accept
  | settarget
  | switch
  | ctltick
  | publish
deriving DecidableEq, Repr

/-- The order of R180, steps 2 to 8. -/
def passOrder : List Slot :=
  [.edge, .tick, .sample, .pushbit, .checkmatch, .extract, .accept, .settarget, .switch, .ctltick,
    .publish]

/-- The internal values the conditions of R76 read: transients of the pass (R32). -/
structure Enables where
  edge : Bit
  fired : Bit
  bit : Bit
  matchCount : Nat
  candidate : Nat
deriving DecidableEq, Repr

/-- The operation that a place of the pass runs, with its operands, or none where its condition
does not hold: the table of R76, row by row. -/
def selected (piw : PortIn) (e : Enables) : Slot → Option Instr
  | .edge => if e.edge then some .edge else none
  | .tick => some (.tick e.edge)
  | .sample => if e.fired then some (.sample (portLine piw)) else none
  | .pushbit => if e.fired then some (.pushbit e.bit) else none
  | .checkmatch => if e.fired then some .checkmatch else none
  | .extract => if e.fired ∧ e.matchCount = Config.patternLen then some .extract else none
  | .accept =>
      if e.fired ∧ e.matchCount = Config.patternLen then some (.accept e.candidate) else none
  | .settarget => if portValid piw then some (.settarget (portTarget piw).toInt) else none
  | .switch => if e.fired then some (.switch (portUpN piw) (portDownN piw)) else none
  | .ctltick => if e.fired then some .ctltick else none
  | .publish => some .publish

end Sys2Proof
end

