-- ==== Sys2Proof/Machine/State.lean ====
section
/-! DEFINITION. The state of the block (10_state.md R20), its ports (30_encoding.md R73, R74), the
observation record (R83), the pending stimulus (R79), the outcomes of a step, and reset. -/

namespace Sys2Proof.Machine

/-- MotionState (R27, R75). The reserved code `0b11` cannot be formed (R77 item e). -/
inductive Motion where
  | stopped
  | movingUp
  | movingDown
deriving DecidableEq, Repr

/-- ControlMode (R28, R75). -/
inductive Mode where
  | auto
  | manualOverride
deriving DecidableEq, Repr

/-- An ordered output write, as an event on a relay pin (R82). -/
inductive RelayEvent where
  | up (v : Bit)
  | dn (v : Bit)
deriving DecidableEq, Repr

/-- The names of R202, for the observation record only. -/
inductive Reason where
  | outOfRange
  | deltaTooLarge
  | rejectedInManual
  | invalidTarget
deriving DecidableEq, Repr

/-- The observation record (R83): the transients of R32, the reasons of R202 and the relay event
list of R82. None of it is a pin or a state element, and no operation reads what an earlier pass
left in it. -/
structure Observation where
  edge : Bit := false
  fired : Bit := false
  bit : Option Bit := none
  matchCount : Option Nat := none
  raw : Option FieldByte := none
  candidate : Option FieldByte := none
  accepted : Option Bit := none
  acceptReason : Option Reason := none
  commandReason : Option Reason := none
  events : List RelayEvent := []
  pubStrobe : Bit := false
  pubValue : BitVec 8 := 0#8
deriving DecidableEq, Repr

/-- The record before anything has run. -/
def Observation.blank : Observation := {}

/-- A line of the stimulus notation of R79, as the step takes it; `oper` admits more operations than
R79 lists (log 4: DESIGN CHOICE). -/
inductive Stimulus where
  /-- `more + 1` clock periods with these levels on `rst` and `PIW` (lines PASS and HOLD). -/
  | drive (rst : Bit) (piw : PortIn) (more : Nat)
  /-- An operation-level line: one operation applied directly to the state, the ports staying as
  they are (R10, R79, log 4). -/
  | oper (i : Instr)
deriving DecidableEq, Repr

/-- The state. The first eleven fields are the complete state of the block (R20); then its ports;
then the model's own two fields. -/
structure State where
  /-- `line_prev` (R21). -/
  linePrev : Bit
  /-- `phase` (R22). -/
  phase : BitVec 10
  /-- `W[0..31]` (R23). -/
  window : Window
  /-- `cur_height` (R25). -/
  curHeight : BitVec 8
  /-- `tgt_height` (R26), two's complement. -/
  tgtHeight : Target
  /-- `motion` (R27). -/
  motion : Motion
  /-- `mode` (R28). -/
  mode : Mode
  /-- `relay_up` (R29). -/
  relayUp : Bit
  /-- `relay_down` (R29). -/
  relayDown : Bit
  /-- `last_pub` (R30). -/
  lastPub : BitVec 8
  /-- `pub_timer` (R31). -/
  pubTimer : BitVec 23
  /-- The level on the input `rst` (R73). -/
  rst : Bit
  /-- The levels on the input port vector (R73). -/
  piw : PortIn
  /-- The output port vector (R74), the value at the end of the last pass. -/
  pow : PortOut
  /-- The observation record (R83); the model's own field. -/
  obs : Observation
  /-- What the environment will present, oldest first (R79); the model's own field. -/
  stimulus : List Stimulus
deriving DecidableEq, Repr

/-- The idle levels of R73's examples: line low, both switches released, no command. -/
def idlePort : PortIn := 0x00006#20

/-- The machine right after RESET (R37, R185; power-up is a RESET). The port levels and the empty
stimulus are the model's (log 3: DESIGN CHOICE); the record holds the two relay writes of the RESET
itself (log 7: DEDUCED). -/
def State.reset : State where
  linePrev := false
  phase := 0#10
  window := Config.windowReset
  curHeight := BitVec.ofNat 8 Config.heightUnknown
  tgtHeight := 0#16
  motion := .stopped
  mode := .auto
  relayUp := false
  relayDown := false
  lastPub := BitVec.ofNat 8 Config.heightUnknown
  pubTimer := 0#23
  rst := false
  piw := idlePort
  pow := 0#19
  obs := { events := [.up false, .dn false] }
  stimulus := []

/-- The ways the machine stops: there are none. "There is no fatal error path in this core" and no
fault state (R200), so this type has no constructor. Safe: nothing can be claimed of a fault. -/
inductive Fault where
deriving DecidableEq, Repr

/-- Why an operation has no next state. -/
inductive Refusal where
  /-- Raised by `exec` alone, for an operation without a meaning; none is left. Safe: the model
  stops where the hardware would go on. -/
  | notModelled (mnemonic : String)
deriving DecidableEq, Repr

end Sys2Proof.Machine
end

