-- ==== Sys2Proof/Machine/Operands.lean ====
section
/-! DEFINITION. Operand forms: window cells and slices (20_memory.md), the height field (R72), the
command operand (R80) and the switch levels (R81), heights and counters as numbers (R11). -/

namespace Sys2Proof.Machine

/-- `W[i]` (R12). -/
def cell (w : Window) (i : Nat) : Bit := w.getLsbD i

/-- `MemRead(i, n)` (R13): `n` cells from index `i`, earliest first, indices modulo the size. -/
def memRead (w : Window) (i n : Nat) : List Bit :=
  (List.range n).map fun k => cell w ((i + k) % Config.windowSize)

/-- The number that a list of bits is, least-significant bit first (R52). -/
def lsbFirst : List Bit → Nat
  | [] => 0
  | b :: bs => b.toNat + 2 * lsbFirst bs

/-- `raw` of R123: the field before inversion. -/
def rawField (w : Window) : FieldByte :=
  BitVec.ofNat Config.fieldLen (lsbFirst (memRead w Config.fieldOffset Config.fieldLen))

/-- `candidate := 255 - raw` of R123: the complement within the field. -/
def candidateOf (raw : FieldByte) : FieldByte :=
  BitVec.ofNat Config.fieldLen (2 ^ Config.fieldLen - 1 - raw.toNat)

/-- `sext_16` (R13, R80). -/
def sext16 (v : Target) : Int := v.toInt

/-- A switch line is active when it reads 0 (R81). -/
def active (pin : Bit) : Bit := !pin

/-- CurrentHeight as an integer (R11). -/
def State.cur (s : State) : Int := (s.curHeight.toNat : Int)

/-- TargetHeight as an integer (R26). -/
def State.tgt (s : State) : Int := sext16 s.tgtHeight

/-- CurrentHeight zero-extended to the width of the target: the snap's value (R153). -/
def snapTarget (cur : BitVec 8) : Target := cur.setWidth Config.targetWidth

end Sys2Proof.Machine
end

