-- ==== Sys2Proof/Machine/Flags.lean ====
section
/-! DEFINITION. The transients that play the part of condition flags (10_state.md R32): `edge`,
`fired`, `matchCount`, the filter's verdict, the arm of a command and the publish conditions. -/

namespace Sys2Proof.Machine

/-- `edge := (line != line_prev)` (R100). -/
def edgeFlag (line linePrev : Bit) : Bit := line != linePrev

/-- `fired` (R102, R104): never in a pass with an edge, else when the cycle has elapsed. -/
def firedFlag (edge : Bit) (phase : BitVec 10) : Bit :=
  !edge && decide (Config.cyclePasses ≤ phase.toNat + 1)

/-- The loop of R121 from index `k`, with at most `n` positions left. -/
def matchFrom (p : SyncPattern) (w : Window) : Nat → Nat → Nat
  | 0, k => k
  | n + 1, k => if cell w k = p.getLsbD k then matchFrom p w n (k + 1) else k

/-- `matchCount` (R121): the number of leading cells that agree with the pattern, 0 to 23. -/
def matchCount (p : SyncPattern) (w : Window) : Nat := matchFrom p w Config.patternLen 0

/-- A full match (R122). -/
def fullMatch (p : SyncPattern) (w : Window) : Bool := matchCount p w == Config.patternLen

/-- The three tests of R140 in their order: the reason of a drop, or none when the candidate is
accepted. -/
def filterDrop (cur candidate : Nat) : Option Reason :=
  if candidate < Config.hMin ∨ candidate > Config.hMax then some .outOfRange
  else if cur = Config.heightUnknown then none
  else if ((cur : Int) - candidate).natAbs < Config.maxDelta then none
  else some .deltaTooLarge

/-- The arms of R154. -/
inductive CommandArm where
  | rejected
  | moveUp
  | moveDown
  | invalid
deriving DecidableEq, Repr

/-- The tests of R154 in their order. -/
def commandArm (maxHeight : Int) (mode : Mode) (cur n : Int) : CommandArm :=
  if mode = .manualOverride then .rejected
  else if cur < n ∧ n < maxHeight then .moveUp
  else if cur > n then .moveDown
  else .invalid

/-- The stop comparisons of R155: whether CTLTICK stops the motion. -/
def targetReached (mode : Mode) (motion : Motion) (cur tgt : Int) : Bool :=
  match mode, motion with
  | .auto, .movingUp => decide (cur + Config.upOffset ≥ tgt)
  | .auto, .movingDown => decide (cur - Config.downOffset ≤ tgt)
  | .auto, .stopped => false
  | .manualOverride, _ => false

/-- The direction in which an active switch takes over from Auto (R156), or none; both active gives
`BOTH_PRESSED_DIR`. -/
def switchDirection (upN downN : Bit) : Option Direction :=
  match active upN, active downN with
  | true, true => some Config.bothPressedDir
  | true, false => some .up
  | false, true => some .down
  | false, false => none

/-- The publish-if-changed check is due in this pass (R190). -/
def publishDue (timer : BitVec 23) : Bool :=
  decide (Config.pubPasses ≤ timer.toNat + 1)

/-- The check finds a changed height (R190). -/
def publishes (timer : BitVec 23) (cur last : BitVec 8) : Bool :=
  publishDue timer && cur != last

end Sys2Proof.Machine
end

