-- ==== Sys2Proof/Machine/Ops.lean ====
section
/-! DEFINITION. The named operations over state that the meanings share: ordered relay writes, the
window's one store, the edge event's entry, the phase count, the ports. -/

namespace Sys2Proof.Machine

/-- `relay_up <= v`: an ordered output write with its event (R13, R82). -/
def writeRelayUp (v : Bit) (s : State) : State :=
  { s with relayUp := v, obs := { s.obs with events := s.obs.events ++ [.up v] } }

/-- `relay_down <= v` (R13, R82). -/
def writeRelayDown (v : Bit) (s : State) : State :=
  { s with relayDown := v, obs := { s.obs with events := s.obs.events ++ [.dn v] } }

/-- The shift of R120 on the register: `W[i] <- W[i+1]` for `i` in 0 to 30, `W[31] <- bit`. -/
def shiftIn (bit : Bit) (w : Window) : Window :=
  BitVec.ofNat Config.windowSize (w.toNat / 2 + 2 ^ (Config.windowSize - 1) * bit.toNat)

/-- `snap`: `tgt_height <- cur_height` (R153, R16). -/
def snap (s : State) : State :=
  { s with tgtHeight := snapTarget s.curHeight }

/-- Taking the edge event (R203 to R206): nothing is saved, no mode changes, no mask is set; the
whole handler is `phase <- HALF_PASSES` (R101). There is nothing to restore and no return (R207):
the pass goes on. -/
def takeEdge (s : State) : State :=
  { s with phase := BitVec.ofNat 10 Config.halfPasses }

/-- The edge detector (R100). -/
def detectEdge (line : Bit) (s : State) : State :=
  { s with
    linePrev := line
    obs := { s.obs with edge := edgeFlag line s.linePrev } }

/-- The phase count of a pass without an edge (R102, R104). -/
def nextPhase (phase : BitVec 10) : BitVec 10 :=
  if Config.cyclePasses ≤ phase.toNat + 1 then 0#10 else phase + 1#10

/-- The transients of an earlier pass are forgotten (R32). -/
def clearObs (s : State) : State :=
  { s with obs := Observation.blank }

/-- The value of `POW` (R74): relays at bits 0 and 1, height at 9:2, strobe at 10, value at 18:11. -/
def outputWord (s : State) : PortOut :=
  BitVec.ofNat 19 (s.relayUp.toNat + 2 * s.relayDown.toNat + 4 * s.curHeight.toNat
    + 1024 * s.obs.pubStrobe.toNat + 2048 * s.obs.pubValue.toNat)

/-- Step 9 of R180: `POW` takes its value at the end of the pass. -/
def driveOutputs (s : State) : State :=
  { s with pow := outputWord s }

/-- The environment presents a line before everything it was about to present. -/
def present (l : Stimulus) (s : State) : State :=
  { s with stimulus := l :: s.stimulus }

/-! ## The wire bits of R79 -/

/-- `BIT b`: 1000 periods of `PIW = 0x00006 + b`. -/
def wireBit (b : Bit) : Stimulus :=
  .drive false (encodePort b true true 0#16 false) (Config.cyclePasses - 1)

/-- The 32 wire bits of a frame, first on the wire first (R70, R79). -/
def wireFrame (p : SyncPattern) (raw : FieldByte) (tail : Bit) : List Stimulus :=
  (List.range Config.windowSize).map fun i => wireBit (cell (frameCells p raw tail) i)

end Sys2Proof.Machine
end

