-- ==== Sys2Proof/Machine/Filter.lean ====
section
/-! DEFINITION. The Height Filter (43_height_filter.md): ACCEPT. -/

namespace Sys2Proof.Machine

/-- ACCEPT (R140): the only writer of `cur_height`. A drop changes no state element (R201). -/
def accept (candidate : Nat) (s : State) : State :=
  match filterDrop s.curHeight.toNat candidate with
  | none =>
      { s with
        curHeight := BitVec.ofNat 8 candidate
        obs := { s.obs with accepted := some true, acceptReason := none } }
  | some r => { s with obs := { s.obs with accepted := some false, acceptReason := some r } }

/-- ACCEPT (R140). -/
def execAccept (candidate : Nat) (s : State) : Host.Outcome State Fault Refusal :=
  .next (accept candidate s)

end Sys2Proof.Machine
end

