-- ==== Sys2Proof/Machine/Decoder.lean ====
section
/-! DEFINITION. The Frame Decoder (42_frame_decoder.md): PUSHBIT, CHECKMATCH, EXTRACT, DECODE, and
the stimulus line FRAME (R79). -/

namespace Sys2Proof.Machine

/-- PUSHBIT (R120): the only store into BitWindow. -/
def pushBit (bit : Bit) (s : State) : State :=
  { s with window := shiftIn bit s.window }

/-- CHECKMATCH (R121): its result is a transient; no state element changes. -/
def checkMatch (P : Params) (s : State) : State :=
  { s with obs := { s.obs with matchCount := some (matchCount P.syncPattern s.window) } }

/-- EXTRACT (R123): its results are transients; no state element changes. -/
def extract (s : State) : State :=
  { s with
    obs := { s.obs with
      raw := some (rawField s.window)
      candidate := some (candidateOf (rawField s.window)) } }

/-- DECODE (R125): PUSHBIT, CHECKMATCH, and on a full match EXTRACT and ACCEPT. -/
def decodeBit (P : Params) (bit : Bit) (s : State) : State :=
  let s := checkMatch P (pushBit bit s)
  if fullMatch P.syncPattern s.window then
    accept (candidateOf (rawField s.window)).toNat (extract s)
  else s

/-- FRAME (R79): the line stands for the wire bits of a frame; the environment will present them,
each for one bit time, before what it was about to present. No state element of the block changes:
a frame is "not an operation" of it (log 6: DESIGN CHOICE). -/
def transmitFrame (P : Params) (raw : FieldByte) (tail : Bit) (s : State) : State :=
  { s with stimulus := wireFrame P.syncPattern raw tail ++ s.stimulus }

/-- FRAME (R70, R79). -/
def execFrame (raw : FieldByte) (tail : Bit) (s : State) : Host.Outcome State Fault Refusal :=
  .next (transmitFrame Config.params raw tail s)

/-- PUSHBIT (R120). -/
def execPushbit (bit : Bit) (s : State) : Host.Outcome State Fault Refusal := .next (pushBit bit s)

/-- CHECKMATCH (R121). -/
def execCheckmatch (s : State) : Host.Outcome State Fault Refusal :=
  .next (checkMatch Config.params s)

/-- EXTRACT (R123). -/
def execExtract (s : State) : Host.Outcome State Fault Refusal := .next (extract s)

/-- DECODE (R125). -/
def execDecode (bit : Bit) (s : State) : Host.Outcome State Fault Refusal :=
  .next (decodeBit Config.params bit s)

end Sys2Proof.Machine
end

