-- ==== Sys2Proof/Machine/Egress.lean ====
section
/-! DEFINITION. Status egress (46_status_egress.md): PUBLISH. -/

namespace Sys2Proof.Machine

/-- PUBLISH (R190). -/
def publish (s : State) : State :=
  let strobe := publishes s.pubTimer s.curHeight s.lastPub
  { s with
    pubTimer := if publishDue s.pubTimer then 0#23 else s.pubTimer + 1#23
    lastPub := if strobe then s.curHeight else s.lastPub
    obs := { s.obs with
      pubStrobe := strobe
      pubValue := if strobe then s.curHeight else 0#8 } }

/-- PUBLISH (R190). -/
def execPublish (s : State) : Host.Outcome State Fault Refusal := .next (publish s)

end Sys2Proof.Machine
end

