-- ==== Sys2Proof/Machine/Movement.lean ====
section
/-! DEFINITION. The Movement Controller (44_movement_controller.md): the micro-operations ENTER_UP,
ENTER_DOWN and STOP, and SETTARGET, CTLTICK and SWITCH. -/

namespace Sys2Proof.Machine

/-- ENTER_UP (R151): the down relay is released first. -/
def enterUp (s : State) : State :=
  { writeRelayUp true (writeRelayDown false s) with motion := .movingUp }

/-- ENTER_DOWN (R152): the up relay is released first. -/
def enterDown (s : State) : State :=
  { writeRelayDown true (writeRelayUp false s) with motion := .movingDown }

/-- STOP (R153): both relays released, Stopped, target snapped. -/
def stop (s : State) : State :=
  snap { writeRelayDown false (writeRelayUp false s) with motion := .stopped }

/-- The micro-operation that starts a motion. -/
def enter : Direction → State → State
  | .up => enterUp
  | .down => enterDown

/-- The target and the command's reason, before the arm's micro-operation. -/
def startToward (n : Int) (s : State) : State :=
  { s with tgtHeight := BitVec.ofInt Config.targetWidth n, obs := { s.obs with commandReason := none } }

/-- The reason of a command that starts no motion, for the observation record (R202). -/
def noteCommand (r : Reason) (s : State) : State :=
  { s with obs := { s.obs with commandReason := some r } }

/-- SETTARGET (R154). -/
def setTarget (P : Params) (n : Int) (s : State) : State :=
  match commandArm P.maxHeight s.mode s.cur n with
  | .rejected => noteCommand .rejectedInManual s
  | .moveUp => enterUp (startToward n s)
  | .moveDown => enterDown (startToward n s)
  | .invalid => stop (noteCommand .invalidTarget s)

/-- CTLTICK (R155). -/
def ctlTick (s : State) : State :=
  if targetReached s.mode s.motion s.cur s.tgt then stop s else s

/-- SWITCH (R156). -/
def switchInput (upN downN : Bit) (s : State) : State :=
  match s.mode with
  | .manualOverride => if upN ∧ downN then { stop s with mode := .auto } else s
  | .auto =>
    match switchDirection upN downN with
    | some d => enter d { s with mode := .manualOverride }
    | none => s

/-- ENTER_UP (R151). -/
def execEnterUp (s : State) : Host.Outcome State Fault Refusal := .next (enterUp s)

/-- ENTER_DOWN (R152). -/
def execEnterDown (s : State) : Host.Outcome State Fault Refusal := .next (enterDown s)

/-- STOP (R153). -/
def execStop (s : State) : Host.Outcome State Fault Refusal := .next (stop s)

/-- SETTARGET (R154). -/
def execSettarget (n : Int) (s : State) : Host.Outcome State Fault Refusal :=
  .next (setTarget Config.params n s)

/-- CTLTICK (R155). -/
def execCtltick (s : State) : Host.Outcome State Fault Refusal := .next (ctlTick s)

/-- SWITCH (R156). -/
def execSwitch (upN downN : Bit) (s : State) : Host.Outcome State Fault Refusal :=
  .next (switchInput upN downN s)

end Sys2Proof.Machine
end

