-- ==== Sys2Proof/Machine/Sampler.lean ====
section
/-! DEFINITION. The Bit Sampler (41_bit_sampler.md): EDGE, TICK, SAMPLE. -/

namespace Sys2Proof.Machine

/-- TICK (R102, R104): counts a pass and says whether the sampler fired. In a pass with an edge it
returns false and the phase stays as EDGE left it (R102 corner case c). -/
def tick (edge : Bit) (s : State) : State :=
  { s with
    phase := if edge then s.phase else nextPhase s.phase
    obs := { s.obs with fired := firedFlag edge s.phase } }

/-- SAMPLE (R103): `bit := line`. -/
def sampleLine (line : Bit) (s : State) : State :=
  { s with obs := { s.obs with bit := some line } }

/-- EDGE (R101). -/
def execEdge (s : State) : Host.Outcome State Fault Refusal := .next (takeEdge s)

/-- TICK (R102). -/
def execTick (edge : Bit) (s : State) : Host.Outcome State Fault Refusal := .next (tick edge s)

/-- SAMPLE (R103). -/
def execSample (line : Bit) (s : State) : Host.Outcome State Fault Refusal :=
  .next (sampleLine line s)

end Sys2Proof.Machine
end

