-- ==== Sys2Proof/Machine/Sequencer.lean ====
section
/-! DEFINITION. The pass (45_pass_sequencer.md): PASS and RESET. -/

namespace Sys2Proof.Machine

/-- Steps 1 and 2 of R180: the edge detector, then EDGE, then TICK. -/
def samplerStage (line : Bit) (s : State) : State :=
  let s := detectEdge line s
  let s := if s.obs.edge then takeEdge s else s
  tick s.obs.edge s

/-- Steps 3 and 4 of R180, in a firing pass. -/
def decoderStage (P : Params) (line : Bit) (s : State) : State :=
  if s.obs.fired then decodeBit P line (sampleLine line s) else s

/-- Step 5 of R180. -/
def commandStage (P : Params) (cmdTarget : Target) (cmdValid : Bit) (s : State) : State :=
  if cmdValid then setTarget P (sext16 cmdTarget) s else s

/-- Steps 6 and 7 of R180, in a firing pass (R182). -/
def controlStage (upN downN : Bit) (s : State) : State :=
  if s.obs.fired then ctlTick (switchInput upN downN s) else s

/-- PASS (R180). -/
def runPass (P : Params) (line swDownN swUpN : Bit) (cmdTarget : Target) (cmdValid : Bit)
    (s : State) : State :=
  let s := samplerStage line (clearObs s)
  let s := decoderStage P line s
  let s := commandStage P cmdTarget cmdValid s
  let s := controlStage swUpN swDownN s
  driveOutputs (publish s)

/-- RESET (R185): every element at its reset value, both relay writes de-asserting, `POW` zero. The
levels on the input pins and what the environment will present are not the block's to reset. -/
def resetBlock (s : State) : State :=
  let s := writeRelayDown false (writeRelayUp false (clearObs s))
  { s with
    linePrev := false
    phase := 0#10
    window := Config.windowReset
    curHeight := BitVec.ofNat 8 Config.heightUnknown
    tgtHeight := 0#16
    motion := .stopped
    mode := .auto
    lastPub := BitVec.ofNat 8 Config.heightUnknown
    pubTimer := 0#23
    pow := 0#19 }

/-- PASS (R180). -/
def execPass (line swDownN swUpN : Bit) (cmdTarget : Target) (cmdValid : Bit) (s : State) :
    Host.Outcome State Fault Refusal :=
  .next (runPass Config.params line swDownN swUpN cmdTarget cmdValid s)

/-- RESET (R185). -/
def execReset (s : State) : Host.Outcome State Fault Refusal := .next (resetBlock s)

end Sys2Proof.Machine
end

