-- ==== Sys2Proof/Machine/Dispatch.lean ====
section
/-! DEFINITION. Which meaning each operation has. -/

namespace Sys2Proof.Machine

def exec (i : Instr) (s : State) : Host.Outcome State Fault Refusal :=
  match i with
  | .frame raw tail => Sys2Proof.Machine.execFrame raw tail s
  | .edge => Sys2Proof.Machine.execEdge s
  | .tick edge => Sys2Proof.Machine.execTick edge s
  | .sample line => Sys2Proof.Machine.execSample line s
  | .pushbit bit => Sys2Proof.Machine.execPushbit bit s
  | .checkmatch => Sys2Proof.Machine.execCheckmatch s
  | .extract => Sys2Proof.Machine.execExtract s
  | .accept candidate => Sys2Proof.Machine.execAccept candidate s
  | .settarget n => Sys2Proof.Machine.execSettarget n s
  | .switch upN downN => Sys2Proof.Machine.execSwitch upN downN s
  | .ctltick => Sys2Proof.Machine.execCtltick s
  | .publish => Sys2Proof.Machine.execPublish s
  | .enterUp => Sys2Proof.Machine.execEnterUp s
  | .enterDown => Sys2Proof.Machine.execEnterDown s
  | .stop => Sys2Proof.Machine.execStop s
  | .decode bit => Sys2Proof.Machine.execDecode bit s
  | .pass line dn up target valid => Sys2Proof.Machine.execPass line dn up target valid s
  | .reset => Sys2Proof.Machine.execReset s

end Sys2Proof.Machine
end

