-- ==== Sys2Proof/Machine/Fetch.lean ====
section
/-! DEFINITION. What a step takes from the environment: the levels of the next clock period, or an
operation-level line (30_encoding.md R73, R79; 20_memory.md R66). -/

namespace Sys2Proof.Machine

/-- A line of `more + 1` periods has `more` left after one; a line of one is used up. -/
def leftOver (rst : Bit) (piw : PortIn) (more : Nat) (rest : List Stimulus) : List Stimulus :=
  match more with
  | 0 => rest
  | m + 1 => .drive rst piw m :: rest

/-- The instruction the next step runs: what the levels of the next period select, or the line's
operation. With nothing pending the ports keep their levels (log 3: DESIGN CHOICE). -/
def fetchInstr (s : State) : Instr :=
  match s.stimulus with
  | [] => decodePeriod s.rst s.piw
  | .drive rst piw _ :: _ => decodePeriod rst piw
  | .oper i :: _ => i

/-- The state in which it runs: the levels are on the ports, the line is taken, and the transients
of the step before are forgotten (R32). -/
def fetchState (s : State) : State :=
  match s.stimulus with
  | [] => clearObs s
  | .drive rst piw more :: rest =>
      clearObs { s with rst := rst, piw := piw, stimulus := leftOver rst piw more rest }
  | .oper _ :: rest => clearObs { s with stimulus := rest }

/-- The line by which the environment has an instruction run: a pass as the levels of one period, a
reset as a period with `rst = 1`, any other operation as its operation-level line. -/
def lineOf : Instr → Stimulus
  | .pass line swDownN swUpN cmdTarget cmdValid =>
      .drive false (encodePort line swDownN swUpN cmdTarget cmdValid) 0
  | .reset => .drive true idlePort 0
  | .frame raw tail => .oper (.frame raw tail)
  | .edge => .oper .edge
  | .tick edge => .oper (.tick edge)
  | .sample line => .oper (.sample line)
  | .pushbit bit => .oper (.pushbit bit)
  | .checkmatch => .oper .checkmatch
  | .extract => .oper .extract
  | .accept candidate => .oper (.accept candidate)
  | .settarget n => .oper (.settarget n)
  | .switch upN downN => .oper (.switch upN downN)
  | .ctltick => .oper .ctltick
  | .publish => .oper .publish
  | .enterUp => .oper .enterUp
  | .enterDown => .oper .enterDown
  | .stop => .oper .stop
  | .decode bit => .oper (.decode bit)

end Sys2Proof.Machine
end

