-- ==== Sys2Proof/Machine/Step.lean ====
section
/-! DEFINITION. One step: take what the environment presents, decode it, run it. -/

namespace Sys2Proof.Machine

/-- One clock period (R180, R185), or one operation-level line (R79, log 4). -/
def step (s : State) : Host.Outcome State Fault Refusal :=
  exec (fetchInstr s) (fetchState s)

/-- The instruction that the decoder reads from a table word, presented so that the very next step
runs it; a word that the decoder refuses presents nothing. -/
def State.withFetchWord (s : State) (nbits w : Nat) : State :=
  match decodeTableWord nbits w with
  | some i => present (lineOf i) s
  | none => s

end Sys2Proof.Machine
end

