-- ==== Sys2Proof/Machine/Assembler.lean ====
section
/-! DEFINITION. The stimulus notation of 30_encoding.md R79, as terms: its lines, and the stimulus
each stands for. -/

namespace Sys2Proof.Machine

/-- The lines of R79. `up` and `dn` are pin levels, 1 is released. -/
inductive Line where
  /-- `PASS line= up= dn=`. -/
  | pass (line up dn : Bit)
  /-- `PASS line= up= dn= set=n`. -/
  | passSet (line up dn : Bit) (n : Int)
  /-- `HOLD k, line= up= dn=`. -/
  | hold (k : Nat) (line up dn : Bit)
  /-- `BIT b`. -/
  | bit (b : Bit)
  /-- `FRAME h`: 31 wire bits. -/
  | frame (h : FieldByte)
  | edge
  | tick
  | pushbit (b : Bit)
  | checkmatch
  | extract
  | accept (c : Nat)
  | settarget (n : Int)
  | switch (up dn : Bit)
  | ctltick
  | publish
  /-- `FIRE b up= dn=`: the body of a firing pass without a command. -/
  | fire (b up dn : Bit)
  /-- `HEIGHT c`: what the controller sees of a decoded candidate. -/
  | height (c : Nat)
deriving DecidableEq, Repr

/-- `k` periods with the same levels (R79, line HOLD). -/
def holdFor (k : Nat) (piw : PortIn) : List Stimulus :=
  match k with
  | 0 => []
  | m + 1 => [.drive false piw m]

/-- The stimulus a line stands for (R79). The line TICK stands outside any pass, so it sees no
edge. -/
def assemble (P : Params) : Line → List Stimulus
  | .pass line up dn => holdFor 1 (encodePort line dn up 0#16 false)
  | .passSet line up dn n => holdFor 1 (encodePort line dn up (BitVec.ofInt Config.targetWidth n) true)
  | .hold k line up dn => holdFor k (encodePort line dn up 0#16 false)
  | .bit b => [wireBit b]
  | .frame h =>
      (wireFrame P.syncPattern (candidateOf h) false).take (Config.patternLen + Config.fieldLen)
  | .edge => [.oper .edge]
  | .tick => [.oper (.tick false)]
  | .pushbit b => [.oper (.pushbit b)]
  | .checkmatch => [.oper .checkmatch]
  | .extract => [.oper .extract]
  | .accept c => [.oper (.accept c)]
  | .settarget n => [.oper (.settarget n)]
  | .switch up dn => [.oper (.switch up dn)]
  | .ctltick => [.oper .ctltick]
  | .publish => [.oper .publish]
  | .fire b up dn => [.oper (.decode b), .oper (.switch up dn), .oper .ctltick]
  | .height c => [.oper (.accept c), .oper (.switch true true), .oper .ctltick]

end Sys2Proof.Machine
end

