-- ==== Sys2Proof/Machine/OperationMap.lean ====
section
/-! DEFINITION. A pass as the operation map of 30_encoding.md R76 gives it: place by place, each the
operation it selects. `runPass` (R180) is the form a step uses. -/

namespace Sys2Proof.Machine

/-- The internal values that the conditions of R76 read, from the observation record. -/
def enables (s : State) : Enables where
  edge := s.obs.edge
  fired := s.obs.fired
  bit := s.obs.bit.getD false
  matchCount := s.obs.matchCount.getD 0
  candidate := (s.obs.candidate.getD 0#8).toNat

/-- Runs the operation that one place of the pass selects. -/
def runSlot (piw : PortIn) (s : State) (slot : Slot) : State :=
  match selected piw (enables s) slot with
  | none => s
  | some i =>
    match exec i s with
    | .next t => t
    | .fault _ => s
    | .refused _ => s

/-- The pass of R180 by the operation map: the edge detector, every place in order, the outputs. -/
def mappedPass (piw : PortIn) (s : State) : State :=
  driveOutputs (passOrder.foldl (runSlot piw) (detectEdge (portLine piw) (clearObs s)))

end Sys2Proof.Machine
end

