-- ==== Sys2Proof/Machine/Ring.lean ====
section
/-! DEFINITION. BitWindow as a ring with a cursor (20_memory.md R64, 42_frame_decoder.md R128): the
other realisation, which shows the same logical window. No step uses it. -/

namespace Sys2Proof.Machine

/-- A physical array `A[0..31]` and the cursor `c`, the position of logical index 0 (R128). -/
structure Ring where
  cells : Vector Bit Config.windowSize
  cursor : Fin Config.windowSize
deriving DecidableEq, Repr

/-- `W[i] = A[(c + i) mod 32]` (R128). -/
def ringCell (r : Ring) (i : Fin Config.windowSize) : Bit := r.cells.get (r.cursor + i)

/-- `A[c] <- b; c <- (c + 1) mod 32` (R128). -/
def ringPush (b : Bit) (r : Ring) : Ring where
  cells := r.cells.set r.cursor.val b r.cursor.isLt
  cursor := r.cursor + 1

/-- The ring shows the window: the same logical cells. -/
def ringShows (r : Ring) (w : Window) : Prop := ∀ i : Fin Config.windowSize, ringCell r i = cell w i.val

end Sys2Proof.Machine
end

