-- ==== Sys2Proof/Safety.lean ====
section
/-! DEFINITION. What counts as a safe run: the invariants of 10_state.md R34, the relay pins between
two ordered writes (R150), and which operations run a whole clock period. -/

namespace Sys2Proof.Machine

/-- A height is unknown or plausible (R34 items a and g). -/
abbrev heightLegal (h : BitVec 8) : Prop :=
  h.toNat = Config.heightUnknown ∨ (Config.hMin ≤ h.toNat ∧ h.toNat ≤ Config.hMax)

/-- Not both relays energised (R34 item b). -/
abbrev relaysExclusive (s : State) : Prop := ¬(s.relayUp = true ∧ s.relayDown = true)

/-- The relays show the motion (R34 item c). -/
abbrev relaysFollowMotion (s : State) : Prop :=
  s.relayUp = decide (s.motion = .movingUp) ∧ s.relayDown = decide (s.motion = .movingDown)

/-- ManualOverride implies a motion (R34 item d). -/
abbrev manualMoves (s : State) : Prop := s.mode = .manualOverride → s.motion ≠ .stopped

/-- The counters are in range (R34 item e). -/
abbrev countersInRange (s : State) : Prop := 
  s.phase.toNat < Config.cyclePasses ∧ s.pubTimer.toNat < Config.pubPasses

/-- A line the environment may present: port levels, or an operation-level line that the model
admits (R79, log 4). -/
def Stimulus.wf : Stimulus → Bool
  | .drive _ _ _ => true
  | .oper i => i.wfLine

/-- The invariants of R34 (items a to e and g; item f holds by the type of `motion`), for a state
whose pending stimulus is made of lines that the model admits (R79, log 4). -/
structure BlockInv (s : State) : Prop where
  height : heightLegal s.curHeight
  exclusive : relaysExclusive s
  relays : relaysFollowMotion s
  manual : manualMoves s
  counters : countersInRange s
  published : heightLegal s.lastPub
  lines : s.stimulus.all Stimulus.wf = true

/-- The pins after one relay event (R82). -/
def pinsAfter : Bit × Bit → RelayEvent → Bit × Bit
  | (_, dn), .up v => (v, dn)
  | (up, _), .dn v => (up, v)

/-- The pins `(up, down)` before the first event and after each. -/
def pinTrace (pins : Bit × Bit) : List RelayEvent → List (Bit × Bit)
  | [] => [pins]
  | e :: es => pins :: pinTrace (pinsAfter pins e) es

/-- Nowhere along the events are both relays energised (R150). -/
def neverBoth (pins : Bit × Bit) (es : List RelayEvent) : Bool :=
  (pinTrace pins es).all fun p => !(p.1 && p.2)

/-- PASS and RESET: the operations that fill a clock period (R76). -/
def fillsAPeriod : Instr → Bool
  | .pass _ _ _ _ _ => true
  | .reset => true
  | .frame _ _ => false
  | .edge => false
  | .tick _ => false
  | .sample _ => false
  | .pushbit _ => false
  | .checkmatch => false
  | .extract => false
  | .accept _ => false
  | .settarget _ => false
  | .switch _ _ => false
  | .ctltick => false
  | .publish => false
  | .enterUp => false
  | .enterDown => false
  | .stop => false
  | .decode _ => false

end Sys2Proof.Machine
end

