-- ==== Sys2Proof/Certificates/Slice0/Obligations.lean ====
section
/-! DEFINITION. The statements about the block, for the provers. Each docstring names the rule of
spec/ it formalises, or the log entry of the choice it rests on. A statement that gives the next
state as an update of `s` says with it that every field not written there is unchanged. -/

open Sys2Proof Sys2Proof.Machine

/-! ## Encoding and fetching -/

/-- R70, R73, R80: every well-formed operation that has a code word decodes back from it. -/
def Obligations.EncodedInstructionDecodesToItself : Prop :=
  ∀ (p : SyncPattern) (i : Instr) (c : CodeWord),
    i.wf = true → encode p i = some c → decode p c = .ok i

/-- R70, R73: no bit of a pass's port word or of a frame's cells is dropped. -/
def Obligations.DecodedPassAndFrameEncodeToTheirWord : Prop :=
  ∀ (p : SyncPattern) (i : Instr),
    (∀ piw, decode p (.period false piw) = .ok i → encode p i = some (.period false piw)) ∧
    (∀ cells, decode p (.wire cells) = .ok i → encode p i = some (.wire cells))

/-- R73, R76, R80: of the 20-bit words, those with bit 19 set select SETTARGET with the signed
operand of bits 18:3; every other one is the port word of a pass with its fields. (Reading a lone
word as SETTARGET's row is log 5.) -/
def Obligations.CommandBitSelectsSettarget : Prop :=
  ∀ w : Nat, w < 2 ^ 20 →
    (w / 2 ^ 19 = 1 → ∃ n : Int, decodeTableWord 24 w = some (.settarget n) ∧
      n = (if w / 8 % 65536 < 32768 then ((w / 8 % 65536 : Nat) : Int)
            else ((w / 8 % 65536 : Nat) : Int) - 65536)) ∧
    (w / 2 ^ 19 = 0 → decodeTableWord 24 w = some (.pass (decide (w % 2 = 1))
      (decide (w / 2 % 2 = 1)) (decide (w / 4 % 2 = 1)) (BitVec.ofNat 16 (w / 8 % 65536)) false))

/-- Words of R73's examples and of 95_test_vectors.md V7. The clauses that read 0x80326, 0xFFFFE and
0xC0006 alone as SETTARGET rest on the model's choice of log 5; the words of passes, and the pins of
a period, are R73's. -/
def Obligations.PortWordsOfTheSpecDecode : Prop :=
  decodeTableWord 24 0x00006 = some (.pass false true true 0#16 false) ∧
  decodeTableWord 24 0x00007 = some (.pass true true true 0#16 false) ∧
  decodeTableWord 24 0x00002 = some (.pass false true false 0#16 false) ∧
  decodeTableWord 24 0x00004 = some (.pass false false true 0#16 false) ∧
  decodeTableWord 24 0x80326 = some (.settarget 100) ∧
  decodeTableWord 24 0xFFFFE = some (.settarget (-1)) ∧
  decodeTableWord 24 0xC0006 = some (.settarget (-32768)) ∧
  decodePeriod false 0x80326#20 = .pass false true true 100#16 true ∧
  decodePeriod true 0x80326#20 = .reset

/-- R70, R122: a window decodes as a frame exactly when CHECKMATCH, run on it, counts 23. -/
def Obligations.FrameDecodesExactlyOnAFullMatch : Prop :=
  ∀ s : State, (∃ i, decode Config.syncPattern (.wire s.window) = .ok i) ↔
    ∃ t, exec .checkmatch s = .next t ∧ t.obs.matchCount = some 23

/-- R76, R79, R180, R185 and logs 3 to 5: a step runs the instruction that the levels of the next
period decode to, or the operation-level line, in the state with those levels on the ports, the
line taken and the record cleared; with nothing pending the ports keep their levels; and a table
word placed by `withFetchWord` is run by the very next step. -/
def Obligations.StepRunsTheDecodedInstruction : Prop :=
  (∀ s : State, s.stimulus = [] →
    step s = exec (decodePeriod s.rst s.piw) { s with obs := Observation.blank }) ∧
  (∀ (s : State) (rst : Bit) (piw : PortIn) (more : Nat) (rest : List Stimulus) (i : Instr),
    s.stimulus = .drive rst piw more :: rest →
    decode Config.syncPattern (.period rst piw) = .ok i →
    step s = exec i { s with
      rst := rst
      piw := piw
      stimulus := if more = 0 then rest else .drive rst piw (more - 1) :: rest
      obs := Observation.blank }) ∧
  (∀ (s : State) (i : Instr) (rest : List Stimulus), s.stimulus = .oper i :: rest →
    step s = exec i { s with stimulus := rest, obs := Observation.blank }) ∧
  (∀ (s : State) (nbits w : Nat) (i : Instr), decodeTableWord nbits w = some i →
    ∃ rst piw, step (s.withFetchWord nbits w)
      = exec i { s with rst := rst, piw := piw, obs := Observation.blank })

/-- R184, R200: there is no stop; from every state a step has a next state. -/
def Obligations.EveryStepHasANextState : Prop :=
  ∀ s : State, ∃ t, step s = .next t

/-! ## Bit Sampler -/

/-- R101: EDGE writes 500 to the phase and touches nothing else. -/
def Obligations.EdgeWritesHalfCycleToThePhase : Prop :=
  ∀ s : State, exec .edge s = .next { s with phase := 500#10 }

/-- R102, R104: TICK counts one pass, or fires and restarts the count; in a pass with an edge it
returns false. That with an edge it leaves the phase as it was, in every state, and that the edge is
its operand, is the model's deduction of log 14: R102 gives only the return value there. -/
def Obligations.TickCountsOrFires : Prop :=
  ∀ (edge : Bit) (s : State), ∃ t, exec (.tick edge) s = .next t ∧
    t = { s with phase := t.phase, obs := { s.obs with fired := t.obs.fired } } ∧
    (edge = true → t.phase = s.phase ∧ t.obs.fired = false) ∧
    (edge = false → 1000 ≤ s.phase.toNat + 1 → t.phase = 0#10 ∧ t.obs.fired = true) ∧
    (edge = false → s.phase.toNat + 1 < 1000 →
      t.phase.toNat = s.phase.toNat + 1 ∧ t.obs.fired = false)

/-- R103: SAMPLE returns the line level; nothing but the transient changes. -/
def Obligations.SampleReturnsTheLineLevel : Prop :=
  ∀ (line : Bit) (s : State),
    exec (.sample line) s = .next { s with obs := { s.obs with bit := some line } }

/-- R100, R104: in every pass the line level is remembered, a transition of either kind is an edge,
and the phase has the one update of R104, in which the edge beats the firing. -/
def Obligations.PassDetectsTheEdgeAndUpdatesThePhaseOnce : Prop :=
  ∀ (line dn up : Bit) (target : BitVec 16) (valid : Bit) (s : State),
    ∃ t, exec (.pass line dn up target valid) s = .next t ∧
      t.linePrev = line ∧ t.obs.edge = (line != s.linePrev) ∧
      (line ≠ s.linePrev → t.phase = 500#10 ∧ t.obs.fired = false) ∧
      (line = s.linePrev → 1000 ≤ s.phase.toNat + 1 → t.phase = 0#10 ∧ t.obs.fired = true) ∧
      (line = s.linePrev → s.phase.toNat + 1 < 1000 →
        t.phase.toNat = s.phase.toNat + 1 ∧ t.obs.fired = false)

/-- R101: with no further edge the sampler does not fire in the 499 passes after an edge pass and
fires in the 500th. -/
def Obligations.SamplerFiresInTheFiveHundredthPassAfterAnEdge : Prop :=
  ∀ (s : State) (piw : PortIn) (more : Nat) (rest : List Stimulus),
    s.phase = 500#10 → s.linePrev = piw.getLsbD 0 →
    s.stimulus = .drive false piw more :: rest → 499 ≤ more →
    (∀ k, 0 < k → k ≤ 499 → ∃ t, Host.Core.run Sys2Proof.core k s = .next t ∧
      t.obs.fired = false ∧ t.phase.toNat = 500 + k ∧ t.window = s.window) ∧
    (∃ t, Host.Core.run Sys2Proof.core 500 s = .next t ∧ t.obs.fired = true ∧ t.phase = 0#10 ∧
      t.obs.bit = some (piw.getLsbD 0))

/-- R105: on a locked line a wire bit of 1000 passes, with or without an edge at its start, and
whatever the switches and the command port do meanwhile, is sampled exactly once, and the lock is
kept. -/
def Obligations.LockedWireBitIsSampledExactlyOnce : Prop :=
  ∀ (s : State) (piw : PortIn) (rest : List Stimulus),
    s.phase = 499#10 → s.stimulus = .drive false piw 999 :: rest →
    ∃ t, Host.Core.run Sys2Proof.core 1000 s = .next t ∧
      t.phase = 499#10 ∧ t.linePrev = piw.getLsbD 0 ∧ t.stimulus = rest ∧
      (∀ i, i < 31 → t.window.getLsbD i = s.window.getLsbD (i + 1)) ∧
      t.window.getLsbD 31 = piw.getLsbD 0

/-! ## Frame Decoder -/

/-- R120: PUSHBIT shifts the window by one, drops the oldest cell and appends the bit. -/
def Obligations.PushbitShiftsTheWindow : Prop :=
  ∀ (bit : Bit) (s : State), ∃ t, exec (.pushbit bit) s = .next t ∧
    t = { s with window := t.window } ∧
    (∀ i, i < 31 → t.window.getLsbD i = s.window.getLsbD (i + 1)) ∧ t.window.getLsbD 31 = bit

/-- R121: CHECKMATCH returns the number of leading cells that agree with the pattern before the
first disagreement, at most 23, and changes no state. -/
def Obligations.CheckmatchCountsTheLeadingAgreement : Prop :=
  ∀ s : State, ∃ n : Nat,
    exec .checkmatch s = .next { s with obs := { s.obs with matchCount := some n } } ∧
    n ≤ 23 ∧ (∀ k, k < n → s.window.getLsbD k = Config.syncPattern.getLsbD k) ∧
    (n < 23 → s.window.getLsbD n ≠ Config.syncPattern.getLsbD n)

/-- R122: the count is 23 for exactly the windows whose cells 0 to 22 equal the pattern, whatever
the other cells hold, and less for every other window. -/
def Obligations.FullMatchIsThePatternInTheOldestCells : Prop :=
  ∀ s : State, ∃ (t : State) (n : Nat), exec .checkmatch s = .next t ∧ t.obs.matchCount = some n ∧
    ((∀ k, k < 23 → s.window.getLsbD k = Config.syncPattern.getLsbD k) → n = 23) ∧
    (¬(∀ k, k < 23 → s.window.getLsbD k = Config.syncPattern.getLsbD k) → n < 23)

/-- R123: EXTRACT reads the eight cells from index 23, least-significant bit first, and returns the
complement; it changes no state. -/
def Obligations.ExtractReadsAndInvertsTheField : Prop :=
  ∀ s : State, ∃ raw candidate : BitVec 8,
    exec .extract s
      = .next { s with obs := { s.obs with raw := some raw, candidate := some candidate } } ∧
    raw.toNat = ((List.range 8).map fun k =>
      (s.window.getLsbD ((23 + k) % 32)).toNat * 2 ^ k).sum ∧
    candidate.toNat = 255 - raw.toNat

/-- R72: a transmitter that sends `1 - h[k]` for `k` from 0 to 7 in the field is read as `h`. -/
def Obligations.TransmittedHeightIsExtracted : Prop :=
  ∀ (h : BitVec 8) (s : State), (∀ k, k < 8 → s.window.getLsbD (23 + k) = !h.getLsbD k) →
    ∃ t, exec .extract s = .next t ∧ t.obs.candidate = some h

/-- R125: DECODE pushes the bit; without a full match nothing else happens, and on a full
match the extracted candidate goes through ACCEPT. -/
def Obligations.DecodeAcceptsOnlyOnAFullMatch : Prop :=
  ∀ (bit : Bit) (s : State), ∃ t, exec (.decode bit) s = .next t ∧
    (∀ i, i < 31 → t.window.getLsbD i = s.window.getLsbD (i + 1)) ∧ t.window.getLsbD 31 = bit ∧
    t = { s with window := t.window, curHeight := t.curHeight, obs := t.obs } ∧
    ((∃ k, k < 23 ∧ t.window.getLsbD k ≠ Config.syncPattern.getLsbD k) →
      t.curHeight = s.curHeight ∧
      t.obs = { s.obs with matchCount := t.obs.matchCount }) ∧
    ((∀ k, k < 23 → t.window.getLsbD k = Config.syncPattern.getLsbD k) →
      ∃ (candidate : BitVec 8) (u : State), t.obs.matchCount = some 23 ∧
        t.obs.candidate = some candidate ∧
        candidate.toNat = 255 - ((List.range 8).map fun k =>
          (t.window.getLsbD (23 + k)).toNat * 2 ^ k).sum ∧
        exec (.accept candidate.toNat) s = .next u ∧ t.curHeight = u.curHeight ∧
        t.obs.accepted = u.obs.accepted ∧ t.obs.acceptReason = u.obs.acceptReason)

/-- The model's choice of log 6, with the layout of R70 and the line of R79: FRAME has the
environment present the 32 wire bits of the frame next, one bit time each, and changes no element of
the block. -/
def Obligations.FramePresentsItsWireBits : Prop :=
  ∀ (raw : BitVec 8) (tail : Bit) (s : State), ∃ bits : List Stimulus,
    exec (.frame raw tail) s = .next { s with stimulus := bits ++ s.stimulus } ∧
    bits.length = 32 ∧
    ∀ i, i < 32 → ∃ b : Bit, bits[i]? = some (.drive false (if b then 7#20 else 6#20) 999) ∧
      b = if i < 23 then Config.syncPattern.getLsbD i
          else if i < 31 then raw.getLsbD (i - 23) else tail

/-- R70, R71, R105 and log 6: a frame that a locked sampler receives stands in the window when its
32 bit times are over, whatever the window held before: pattern in cells 0 to 22, field in 23 to 30,
trailing bit in 31. -/
def Obligations.ReceivedFrameFillsTheWindow : Prop :=
  ∀ (raw : BitVec 8) (tail : Bit) (s : State), s.phase = 499#10 →
    ∃ u t, exec (.frame raw tail) s = .next u ∧
      Host.Core.run Sys2Proof.core 32000 u = .next t ∧
      (∀ k, k < 23 → t.window.getLsbD k = Config.syncPattern.getLsbD k) ∧
      (∀ k, k < 8 → t.window.getLsbD (23 + k) = raw.getLsbD k) ∧ t.window.getLsbD 31 = tail ∧
      t.phase = 499#10 ∧ t.stimulus = s.stimulus

/-- R128, R64: the ring with a cursor shows the same logical window after PUSHBIT. -/
def Obligations.RingBufferShowsTheSameWindow : Prop :=
  ∀ (bit : Bit) (r : Ring) (s : State), ringShows r s.window →
    ∃ t, exec (.pushbit bit) s = .next t ∧ ringShows (ringPush bit r) t.window

/-! ## Height Filter -/

/-- R140: ACCEPT applies the range test, then the bootstrap, then the delta test; a drop changes no
state element. -/
def Obligations.AcceptAppliesItsTestsInOrder : Prop :=
  ∀ (c : Nat) (s : State), ∃ t, exec (.accept c) s = .next t ∧
    ((c < 60 ∨ 120 < c) → t = { s with
      obs := { s.obs with accepted := some false, acceptReason := some .outOfRange } }) ∧
    ((60 ≤ c ∧ c ≤ 120) → s.curHeight = 0#8 → t = { s with
      curHeight := BitVec.ofNat 8 c
      obs := { s.obs with accepted := some true, acceptReason := none } }) ∧
    ((60 ≤ c ∧ c ≤ 120) → s.curHeight ≠ 0#8 → |(s.curHeight.toNat : Int) - c| < 5 → t = { s with
      curHeight := BitVec.ofNat 8 c
      obs := { s.obs with accepted := some true, acceptReason := none } }) ∧
    ((60 ≤ c ∧ c ≤ 120) → s.curHeight ≠ 0#8 → 5 ≤ |(s.curHeight.toNat : Int) - c| → t = { s with
      obs := { s.obs with accepted := some false, acceptReason := some .deltaTooLarge } })

/-- R143: the document's three testable properties of the filter. -/
def Obligations.FilterHasTheTestableProperties : Prop :=
  ∀ (c : Nat) (s : State), ∃ t, exec (.accept c) s = .next t ∧
    (60 ≤ c → c ≤ 120 → s.curHeight = 0#8 → t.curHeight.toNat = c) ∧
    (s.curHeight ≠ 0#8 → 5 ≤ |(s.curHeight.toNat : Int) - c| → t.curHeight = s.curHeight) ∧
    ((c < 60 ∨ 120 < c) → t.curHeight = s.curHeight)

/-- R142: from one reading to the next, in any pass, a known height changes by at most 4 and stays
within 60 to 120; it never becomes unknown again. -/
def Obligations.KnownHeightMovesByAtMostFourAPass : Prop :=
  ∀ (line dn up : Bit) (target : BitVec 16) (valid : Bit) (s : State),
    60 ≤ s.curHeight.toNat → s.curHeight.toNat ≤ 120 →
    ∃ t, exec (.pass line dn up target valid) s = .next t ∧
      60 ≤ t.curHeight.toNat ∧ t.curHeight.toNat ≤ 120 ∧
      |(t.curHeight.toNat : Int) - s.curHeight.toNat| ≤ 4

/-! ## Movement Controller -/

/-- R151: ENTER_UP releases the down relay first, then energises the up relay. -/
def Obligations.EnterUpReleasesTheDownRelayFirst : Prop :=
  ∀ s : State, exec .enterUp s = .next { s with
    relayDown := false
    relayUp := true
    motion := .movingUp
    obs := { s.obs with events := s.obs.events ++ [.dn false, .up true] } }

/-- R152: ENTER_DOWN releases the up relay first, then energises the down relay. -/
def Obligations.EnterDownReleasesTheUpRelayFirst : Prop :=
  ∀ s : State, exec .enterDown s = .next { s with
    relayUp := false
    relayDown := true
    motion := .movingDown
    obs := { s.obs with events := s.obs.events ++ [.up false, .dn true] } }

/-- R153: STOP releases both relays, stops, and snaps the target to the current height. -/
def Obligations.StopReleasesBothRelaysAndSnapsTheTarget : Prop :=
  ∀ s : State, ∃ target : BitVec 16, target.toInt = (s.curHeight.toNat : Int) ∧
    exec .stop s = .next { s with
      relayUp := false
      relayDown := false
      motion := .stopped
      tgtHeight := target
      obs := { s.obs with events := s.obs.events ++ [.up false, .dn false] } }

/-- R154: SETTARGET takes the first arm whose test holds: rejected in ManualOverride, up strictly
below the maximum, down at any lower value, else STOP. -/
def Obligations.SettargetTakesTheFirstArmThatApplies : Prop :=
  ∀ (n : Int) (s : State), -32768 ≤ n → n ≤ 32767 → ∃ t, exec (.settarget n) s = .next t ∧
    (s.mode = .manualOverride → t = { s with
      obs := { s.obs with commandReason := some .rejectedInManual } }) ∧
    (s.mode = .auto → (s.curHeight.toNat : Int) < n → n < Config.maxHeight →
      t.tgtHeight.toInt = n ∧ t = { s with
        tgtHeight := t.tgtHeight
        relayDown := false
        relayUp := true
        motion := .movingUp
        obs := { s.obs with
          commandReason := none
          events := s.obs.events ++ [.dn false, .up true] } }) ∧
    (s.mode = .auto → (s.curHeight.toNat : Int) > n →
      t.tgtHeight.toInt = n ∧ t = { s with
        tgtHeight := t.tgtHeight
        relayUp := false
        relayDown := true
        motion := .movingDown
        obs := { s.obs with
          commandReason := none
          events := s.obs.events ++ [.up false, .dn true] } }) ∧
    (s.mode = .auto → ((s.curHeight.toNat : Int) = n ∨
        ((s.curHeight.toNat : Int) < n ∧ Config.maxHeight ≤ n)) →
      t.tgtHeight.toInt = (s.curHeight.toNat : Int) ∧ t = { s with
        tgtHeight := t.tgtHeight
        relayUp := false
        relayDown := false
        motion := .stopped
        obs := { s.obs with
          commandReason := some .invalidTarget
          events := s.obs.events ++ [.up false, .dn false] } })

/-- R155: CTLTICK stops an automatic motion whose height is within the offset of the target (1 going
up, 2 going down) and does nothing in any other case. -/
def Obligations.CtltickStopsWithinTheOffset : Prop :=
  ∀ s : State, ∃ t, exec .ctltick s = .next t ∧
    ((s.mode = .auto ∧ s.motion = .movingUp ∧
          (s.curHeight.toNat : Int) + 1 ≥ s.tgtHeight.toInt) ∨
        (s.mode = .auto ∧ s.motion = .movingDown ∧
          (s.curHeight.toNat : Int) - 2 ≤ s.tgtHeight.toInt) →
      t.tgtHeight.toInt = (s.curHeight.toNat : Int) ∧ t = { s with
        tgtHeight := t.tgtHeight
        relayUp := false
        relayDown := false
        motion := .stopped
        obs := { s.obs with events := s.obs.events ++ [.up false, .dn false] } }) ∧
    (¬(s.mode = .auto ∧ s.motion = .movingUp ∧
          (s.curHeight.toNat : Int) + 1 ≥ s.tgtHeight.toInt) →
      ¬(s.mode = .auto ∧ s.motion = .movingDown ∧
          (s.curHeight.toNat : Int) - 2 ≤ s.tgtHeight.toInt) → t = s)

/-- R156: an active switch takes over from Auto, up first when both are active; both released at one
poll stop the motion and return to Auto; nothing else changes anything. -/
def Obligations.SwitchTakesOverAndReleases : Prop :=
  ∀ (upN downN : Bit) (s : State), ∃ t, exec (.switch upN downN) s = .next t ∧
    (s.mode = .manualOverride → upN = true → downN = true →
      t.tgtHeight.toInt = (s.curHeight.toNat : Int) ∧ t = { s with
        tgtHeight := t.tgtHeight
        relayUp := false
        relayDown := false
        motion := .stopped
        mode := .auto
        obs := { s.obs with events := s.obs.events ++ [.up false, .dn false] } }) ∧
    (s.mode = .manualOverride → (upN = false ∨ downN = false) → t = s) ∧
    (s.mode = .auto → upN = false → t = { s with
      mode := .manualOverride
      relayDown := false
      relayUp := true
      motion := .movingUp
      obs := { s.obs with events := s.obs.events ++ [.dn false, .up true] } }) ∧
    (s.mode = .auto → upN = true → downN = false → t = { s with
      mode := .manualOverride
      relayUp := false
      relayDown := true
      motion := .movingDown
      obs := { s.obs with events := s.obs.events ++ [.up false, .dn true] } }) ∧
    (s.mode = .auto → upN = true → downN = true → t = s)

/-- R243, R154 corner case d: an automatic downward motion toward a target below 58 is never ended
by CTLTICK at an accepted height. -/
def Obligations.DownwardTargetBelowFiftyEightIsNeverReached : Prop :=
  ∀ s : State, s.mode = .auto → s.motion = .movingDown → 60 ≤ s.curHeight.toNat →
    s.tgtHeight.toInt < 58 → exec .ctltick s = .next s

/-- R150, R34 item b: in every step, at every moment between two ordered relay writes, the relays
are never both energised; and the events account for the relays' values after the step. -/
def Obligations.RelaysAreNeverBothEnergisedEvenTransiently : Prop :=
  ∀ s : State, ¬(s.relayUp = true ∧ s.relayDown = true) → ∃ t, step s = .next t ∧
    neverBoth (s.relayUp, s.relayDown) t.obs.events = true ∧
    (pinTrace (s.relayUp, s.relayDown) t.obs.events).getLast? = some (t.relayUp, t.relayDown)

/-- R20, R25 to R31, column "written by": which operations may change each state element. That the
output word, which R180 step 9 drives at the end of a pass, stays as it is in every other operation
is the model's deduction of log 15. -/
def Obligations.EveryElementHasOnlyItsWriters : Prop :=
  ∀ (i : Instr) (s : State), fillsAPeriod i = false → ∃ t, exec i s = .next t ∧
    t.linePrev = s.linePrev ∧
    (t.phase ≠ s.phase → i = .edge ∨ ∃ e, i = .tick e) ∧
    (t.window ≠ s.window → (∃ b, i = .pushbit b) ∨ ∃ b, i = .decode b) ∧
    (t.curHeight ≠ s.curHeight → (∃ c, i = .accept c) ∨ ∃ b, i = .decode b) ∧
    (t.tgtHeight ≠ s.tgtHeight →
      (∃ n, i = .settarget n) ∨ i = .stop ∨ i = .ctltick ∨ ∃ u d, i = .switch u d) ∧
    (t.mode ≠ s.mode → ∃ u d, i = .switch u d) ∧
    (t.motion ≠ s.motion ∨ t.relayUp ≠ s.relayUp ∨ t.relayDown ≠ s.relayDown →
      (∃ n, i = .settarget n) ∨ i = .ctltick ∨ (∃ u d, i = .switch u d) ∨
        i = .enterUp ∨ i = .enterDown ∨ i = .stop) ∧
    (t.lastPub ≠ s.lastPub ∨ t.pubTimer ≠ s.pubTimer → i = .publish) ∧
    t.pow = s.pow ∧ t.rst = s.rst ∧ t.piw = s.piw

/-! ## Status egress -/

/-- R190: PUBLISH counts a pass, or makes the check; the check strobes, with the height, exactly
when the height differs from the last published one. -/
def Obligations.PublishChecksAtTheEndOfTheInterval : Prop :=
  ∀ s : State, ∃ t, exec .publish s = .next t ∧
    t = { s with
      pubTimer := t.pubTimer
      lastPub := t.lastPub
      obs := { s.obs with pubStrobe := t.obs.pubStrobe, pubValue := t.obs.pubValue } } ∧
    (s.pubTimer.toNat + 1 < 5000000 → t.pubTimer.toNat = s.pubTimer.toNat + 1 ∧
      t.lastPub = s.lastPub ∧ t.obs.pubStrobe = false ∧ t.obs.pubValue = 0#8) ∧
    (5000000 ≤ s.pubTimer.toNat + 1 → s.curHeight ≠ s.lastPub → t.pubTimer = 0#23 ∧
      t.lastPub = s.curHeight ∧ t.obs.pubStrobe = true ∧ t.obs.pubValue = s.curHeight) ∧
    (5000000 ≤ s.pubTimer.toNat + 1 → s.curHeight = s.lastPub → t.pubTimer = 0#23 ∧
      t.lastPub = s.lastPub ∧ t.obs.pubStrobe = false ∧ t.obs.pubValue = 0#8)

/-- R216, R190: after a check no strobe comes in the next 4 999 999 steps, whatever the environment
presents. -/
def Obligations.StrobesAreAtLeastAnIntervalApart : Prop :=
  ∀ (s : State) (k : Nat), s.pubTimer = 0#23 → 0 < k → k < 5000000 →
    ∃ t, Host.Core.run Sys2Proof.core k s = .next t ∧ t.obs.pubStrobe = false

/-- R74, R191: at the end of a pass the output word carries the relays, the height, the strobe and
the published value, which is 0 without a strobe. -/
def Obligations.OutputWordCarriesTheEndOfThePass : Prop :=
  ∀ (line dn up : Bit) (target : BitVec 16) (valid : Bit) (s : State),
    ∃ t, exec (.pass line dn up target valid) s = .next t ∧
      t.pow.getLsbD 0 = t.relayUp ∧ t.pow.getLsbD 1 = t.relayDown ∧
      t.pow.toNat / 4 % 256 = t.curHeight.toNat ∧ t.pow.getLsbD 10 = t.obs.pubStrobe ∧
      t.pow.toNat / 2048 = t.obs.pubValue.toNat ∧
      (t.obs.pubStrobe = true → t.obs.pubValue = t.curHeight) ∧
      (t.obs.pubStrobe = false → t.obs.pubValue = 0#8)

/-! ## The pass -/

/-- R76, R180: a period without reset is the edge detector, then at every place of the pass, in the
order of R180, the operation that the operation map selects there, then the outputs. -/
def Obligations.PassRunsTheSelectedOperationsInOrder : Prop :=
  ∀ (piw : PortIn) (s : State), exec (decodePeriod false piw) s = .next (mappedPass piw s)

/-- R182, R180: in a pass that does not fire the window, the height and the mode stay, the switches
are not polled, and without a command the motion, the target and the relays stay and no relay is
written. -/
def Obligations.NonFiringPassLeavesDecoderAndControllerAlone : Prop :=
  ∀ (line dn up : Bit) (target : BitVec 16) (valid : Bit) (s : State),
    (line ≠ s.linePrev ∨ s.phase.toNat + 1 < 1000) →
    ∃ t, exec (.pass line dn up target valid) s = .next t ∧
      t.window = s.window ∧ t.curHeight = s.curHeight ∧ t.mode = s.mode ∧
      (valid = false → t.motion = s.motion ∧ t.tgtHeight = s.tgtHeight ∧
        t.relayUp = s.relayUp ∧ t.relayDown = s.relayDown ∧ t.obs.events = [])

/-- R62 item b, R155: an automatic motion without a new command and with both switches released
ends in exactly the firing pass whose height, the one accepted in that pass included, is within the
offset of the target. -/
def Obligations.AutomaticMotionEndsOnTheHeightOfThePass : Prop :=
  ∀ (line : Bit) (target : BitVec 16) (s : State),
    line = s.linePrev → 1000 ≤ s.phase.toNat + 1 → s.mode = .auto →
    ∃ t, exec (.pass line true true target false) s = .next t ∧ t.mode = .auto ∧
      (s.motion = .movingUp → (t.curHeight.toNat : Int) + 1 ≥ s.tgtHeight.toInt →
        t.motion = .stopped ∧ t.tgtHeight.toInt = (t.curHeight.toNat : Int) ∧
        t.relayUp = false ∧ t.relayDown = false) ∧
      (s.motion = .movingUp → (t.curHeight.toNat : Int) + 1 < s.tgtHeight.toInt →
        t.motion = .movingUp ∧ t.tgtHeight = s.tgtHeight ∧ t.obs.events = []) ∧
      (s.motion = .movingDown → (t.curHeight.toNat : Int) - 2 ≤ s.tgtHeight.toInt →
        t.motion = .stopped ∧ t.tgtHeight.toInt = (t.curHeight.toNat : Int) ∧
        t.relayUp = false ∧ t.relayDown = false) ∧
      (s.motion = .movingDown → (t.curHeight.toNat : Int) - 2 > s.tgtHeight.toInt →
        t.motion = .movingDown ∧ t.tgtHeight = s.tgtHeight ∧ t.obs.events = [])

/-- R181 item b, R156: a switch active in a firing pass in Auto overrides the command of the same
pass, whatever it is. -/
def Obligations.SwitchOverridesTheCommandOfTheSamePass : Prop :=
  ∀ (line dn up : Bit) (target : BitVec 16) (valid : Bit) (s : State),
    line = s.linePrev → 1000 ≤ s.phase.toNat + 1 → s.mode = .auto → (up = false ∨ dn = false) →
    ∃ t, exec (.pass line dn up target valid) s = .next t ∧ t.mode = .manualOverride ∧
      (up = false → t.motion = .movingUp ∧ t.relayUp = true ∧ t.relayDown = false) ∧
      (up = true → t.motion = .movingDown ∧ t.relayUp = false ∧ t.relayDown = true)

/-- R209: a pass changes the mode only by a poll of the switches in a firing pass: into
ManualOverride when one is active, out of it when both are inactive, which also stops the motion and
snaps the target. -/
def Obligations.ModeChangesOnlyAtASwitchPoll : Prop :=
  ∀ (line dn up : Bit) (target : BitVec 16) (valid : Bit) (s : State),
    ∃ t, exec (.pass line dn up target valid) s = .next t ∧
      (t.mode ≠ s.mode ↔ line = s.linePrev ∧ 1000 ≤ s.phase.toNat + 1 ∧
        ((s.mode = .auto ∧ (up = false ∨ dn = false)) ∨
          (s.mode = .manualOverride ∧ up = true ∧ dn = true))) ∧
      (s.mode = .manualOverride → t.mode = .auto → t.motion = .stopped ∧
        t.relayUp = false ∧ t.relayDown = false ∧
        t.tgtHeight.toInt = (t.curHeight.toNat : Int))

/-- R246: a command presented in ManualOverride is lost: the pass ends as it would without it, but
for the record's note. -/
def Obligations.CommandInManualOverrideIsLost : Prop :=
  ∀ (line dn up : Bit) (target : BitVec 16) (s : State), s.mode = .manualOverride →
    ∃ t u, exec (.pass line dn up target true) s = .next t ∧
      exec (.pass line dn up target false) s = .next u ∧
      t = { u with obs := { u.obs with commandReason := some .rejectedInManual } }

/-- R34 item h: after a pass that ends in Auto and moving, the target is the operand of that pass's
command, or the pass had none and the motion and its target are those of before. -/
def Obligations.AutomaticMotionKeepsItsCommandsTarget : Prop :=
  ∀ (line dn up : Bit) (target : BitVec 16) (valid : Bit) (s : State),
    ∃ t, exec (.pass line dn up target valid) s = .next t ∧
      (t.mode = .auto → t.motion ≠ .stopped →
        (valid = true ∧ t.tgtHeight = target) ∨
        (valid = false ∧ s.mode = .auto ∧ t.motion = s.motion ∧ t.tgtHeight = s.tgtHeight))

/-- R26: outside Auto and moving the target has no effect on any output: two states that differ only
in it give the same outputs, the same record, and again states of that kind. -/
def Obligations.IdleTargetHasNoEffectOnAnyOutput : Prop :=
  ∀ (line dn up : Bit) (target : BitVec 16) (valid : Bit) (s : State) (x : BitVec 16),
    ¬(s.mode = .auto ∧ s.motion ≠ .stopped) →
    ∃ t u, exec (.pass line dn up target valid) s = .next t ∧
      exec (.pass line dn up target valid) { s with tgtHeight := x } = .next u ∧
      u.pow = t.pow ∧ u.obs = t.obs ∧ u = { t with tgtHeight := u.tgtHeight } ∧
      (t.mode = .auto → t.motion ≠ .stopped → u.tgtHeight = t.tgtHeight)

/-! ## Reset and invariants -/

/-- R185: RESET, from any state, sets every element and the output word to its reset value, writing
both relays off; the pins and what the environment presents are not touched. -/
def Obligations.ResetWritesEveryElement : Prop :=
  ∀ s : State, exec .reset s = .next {
    linePrev := false, phase := 0#10, window := 0#32, curHeight := 0#8, tgtHeight := 0#16,
    motion := .stopped, mode := .auto, relayUp := false, relayDown := false, lastPub := 0#8,
    pubTimer := 0#23, rst := s.rst, piw := s.piw, pow := 0#19,
    obs := { Observation.blank with events := [.up false, .dn false] }, stimulus := s.stimulus }

/-- R37: the reset state has the values of the table, element by element. -/
def Obligations.ResetStateHasTheTableValues : Prop :=
  State.reset.linePrev = false ∧ State.reset.phase = 0#10 ∧
  (∀ i, i < 32 → State.reset.window.getLsbD i = false) ∧ State.reset.curHeight = 0#8 ∧
  State.reset.tgtHeight.toInt = 0 ∧ State.reset.motion = .stopped ∧ State.reset.mode = .auto ∧
  State.reset.relayUp = false ∧ State.reset.relayDown = false ∧ State.reset.lastPub = 0#8 ∧
  State.reset.pubTimer = 0#23

/-- R185, R73: in a period with `rst = 1` the port word is ignored: whatever it is, the block ends in
the same state. -/
def Obligations.ResetPeriodIgnoresThePortWord : Prop :=
  ∀ (s : State) (piw piw' : PortIn) (rest : List Stimulus), ∃ t t' : State,
    step { s with stimulus := .drive true piw 0 :: rest } = .next t ∧
    step { s with stimulus := .drive true piw' 0 :: rest } = .next t' ∧
    t = { State.reset with rst := true, piw := piw, stimulus := rest } ∧
    t' = { t with piw := piw' }

/-- R34: the invariants hold right after reset. -/
def Obligations.InvariantHoldsAtReset : Prop := BlockInv State.reset

/-- R34 items a to e and g, with lines pending that the model admits (those of R79 and of log 4):
every step keeps them, from every state that meets them. -/
def Obligations.EveryStepKeepsTheInvariant : Prop :=
  ∀ s : State, BlockInv s → ∃ t, step s = .next t ∧ BlockInv t
end

