-- ==== Sys2Proof/Laws/Config.lean ====
section
/-! SUPPORT. The values of the named constants (00_scope.md R6, R8), as numerals that arithmetic
procedures read. Each is proved by evaluation and not by rfl, so that simp rewrites it under the
Decidable argument of an if as well; those that stand in types simp unfolds by itself. -/

namespace Sys2Proof.Config

theorem windowSize_eq : windowSize = 32 := by decide
theorem patternLen_eq : patternLen = 23 := by decide
@[simp] theorem fieldOffset_eq : fieldOffset = 23 := by decide
theorem fieldLen_eq : fieldLen = 8 := by decide
@[simp] theorem hMin_eq : hMin = 60 := by decide
@[simp] theorem hMax_eq : hMax = 120 := by decide
@[simp] theorem maxDelta_eq : maxDelta = 5 := by decide
@[simp] theorem heightUnknown_eq : heightUnknown = 0 := by decide
@[simp] theorem upOffset_eq : upOffset = 1 := by decide
@[simp] theorem downOffset_eq : downOffset = 2 := by decide
theorem targetWidth_eq : targetWidth = 16 := by decide
@[simp] theorem cyclePasses_eq : cyclePasses = 1000 := by decide
@[simp] theorem halfPasses_eq : halfPasses = 500 := by decide
@[simp] theorem pubPasses_eq : pubPasses = 5000000 := by decide
@[simp] theorem bothPressedDir_eq : bothPressedDir = .up := by decide
@[simp] theorem windowReset_eq : windowReset = 0#32 := by decide
@[simp] theorem params_syncPattern : params.syncPattern = syncPattern := by unfold params; rfl
@[simp] theorem params_maxHeight : params.maxHeight = maxHeight := by unfold params; rfl

end Sys2Proof.Config

namespace Sys2Proof

/-! The bounds of the words, as numerals: what `isLt` says of a word whose width is a named
constant. -/

theorem window_lt (w : Window) : w.toNat < 2 ^ 32 := w.isLt
theorem pattern_lt (p : SyncPattern) : p.toNat < 2 ^ 23 := p.isLt
theorem field_lt (raw : FieldByte) : raw.toNat < 2 ^ 8 := raw.isLt
theorem target_lt (target : Target) : target.toNat < 2 ^ 16 := target.isLt

/-! What the checks and the invariants of R34 say, as numerals. -/

theorem settarget_wf_iff (n : Int) :
    (Instr.settarget n).wf = true ↔ -32768 ≤ n ∧ n ≤ 32767 := by
  simp [Instr.wf]
  omega

theorem accept_wf_iff (c : Nat) : (Instr.accept c).wf = true ↔ c ≤ 255 := by
  simp [Instr.wf]
  omega

namespace Machine

theorem heightLegal_iff (h : BitVec 8) :
    heightLegal h ↔ h = 0#8 ∨ (60 ≤ h.toNat ∧ h.toNat ≤ 120) := by
  simp [heightLegal, ← BitVec.toNat_inj]

theorem countersInRange_iff (s : State) :
    countersInRange s ↔ s.phase.toNat ≤ 999 ∧ s.pubTimer.toNat ≤ 4999999 := by
  simp only [countersInRange, Config.cyclePasses_eq, Config.pubPasses_eq]
  omega

end Machine

end Sys2Proof
end

