-- ==== Sys2Proof/Laws/Encoding.lean ====
section
/-! SUPPORT. The fields of the two words of 30_encoding.md: what decoding reads from an encoded port
word (R73) and from the cells of a frame (R70), and the cells after a shift (R120). -/

namespace Sys2Proof

/-! ## The port word (R73) -/

theorem encodePort_toNat (line dn up : Bit) (target : Target) (valid : Bit) :
    (encodePort line dn up target valid).toNat = line.toNat + 2 * dn.toNat + 4 * up.toNat
      + 8 * target.toNat + 0x80000 * valid.toNat := by
  have h := target_lt target
  cases line <;> cases dn <;> cases up <;> cases valid <;> simp [encodePort] <;> omega

/-- A bit of a port word, as arithmetic on its number. -/
theorem portBit (w : PortIn) (i : Nat) : w.getLsbD i = decide (w.toNat / 2 ^ i % 2 = 1) := by
  rw [← BitVec.testBit_toNat, Nat.testBit_eq_decide_div_mod_eq]

theorem portTarget_toNat (w : PortIn) : (portTarget w).toNat = w.toNat / 8 % 65536 := by
  simp [portTarget, Nat.shiftRight_eq_div_pow]

@[simp] theorem portLine_encodePort (line dn up : Bit) (target : Target) (valid : Bit) :
    portLine (encodePort line dn up target valid) = line := by
  rw [portLine, portBit, encodePort_toNat]
  cases line <;> cases dn <;> cases up <;> cases valid <;> simp <;> omega

@[simp] theorem portDownN_encodePort (line dn up : Bit) (target : Target) (valid : Bit) :
    portDownN (encodePort line dn up target valid) = dn := by
  rw [portDownN, portBit, encodePort_toNat]
  cases line <;> cases dn <;> cases up <;> cases valid <;> simp <;> omega

@[simp] theorem portUpN_encodePort (line dn up : Bit) (target : Target) (valid : Bit) :
    portUpN (encodePort line dn up target valid) = up := by
  rw [portUpN, portBit, encodePort_toNat]
  cases line <;> cases dn <;> cases up <;> cases valid <;> simp <;> omega

@[simp] theorem portValid_encodePort (line dn up : Bit) (target : Target) (valid : Bit) :
    portValid (encodePort line dn up target valid) = valid := by
  have h := target_lt target
  rw [portValid, portBit, encodePort_toNat]
  cases line <;> cases dn <;> cases up <;> cases valid <;> simp <;> omega

@[simp] theorem portTarget_encodePort (line dn up : Bit) (target : Target) (valid : Bit) :
    portTarget (encodePort line dn up target valid) = target := by
  apply BitVec.eq_of_toNat_eq
  have h := target_lt target
  rw [portTarget_toNat, encodePort_toNat]
  cases line <;> cases dn <;> cases up <;> cases valid <;> simp <;> omega

/-- A period's levels decode to the pass with the same fields. -/
theorem decodePeriod_encodePort (line dn up : Bit) (target : Target) (valid : Bit) :
    decodePeriod false (encodePort line dn up target valid)
      = .pass line dn up target valid := by
  simp [decodePeriod]

/-! ## The frame (R70) -/

/-- The test and the fields of a frame, at their indices. -/
theorem decodeWire_eq (p : SyncPattern) (cells : Window) :
    decodeWire p cells = if cells.extractLsb' 0 23 = p then
      .ok (.frame (cells.extractLsb' 23 8) (cells.getLsbD 31)) else .error .notAFrame := rfl

theorem frameCells_toNat (p : SyncPattern) (raw : FieldByte) (tail : Bit) :
    (frameCells p raw tail).toNat
      = 2 ^ 31 * tail.toNat + (2 ^ 23 * raw.toNat + p.toNat) := by
  have hp := pattern_lt p
  have hr := field_lt raw
  cases tail <;> simp [frameCells] <;> omega

/-- The cells of a frame: pattern, field, tail. -/
theorem frameCells_getLsbD (p : SyncPattern) (raw : FieldByte) (tail : Bit) (i : Nat)
    (hi : i < 32) :
    (frameCells p raw tail).getLsbD i
      = if i < 23 then p.getLsbD i else if i < 31 then raw.getLsbD (i - 23) else tail := by
  have hp := pattern_lt p
  have hr := field_lt raw
  have h31 : 2 ^ 23 * raw.toNat + p.toNat < 2 ^ 31 := by omega
  rw [← BitVec.testBit_toNat, frameCells_toNat, Nat.testBit_two_pow_mul_add _ h31]
  split
  · rw [Nat.testBit_two_pow_mul_add _ hp]
    by_cases h23 : i < 23
    · simp only [h23, if_true, BitVec.testBit_toNat]
    · simp only [h23, if_false, BitVec.testBit_toNat]
  · have : i = 31 := by omega
    subst this
    cases tail <;> simp

end Sys2Proof

namespace Sys2Proof.Machine

/-! ## The shift (R120) -/

/-- The shifted register as a number. -/
theorem shiftIn_toNat (bit : Bit) (w : Window) :
    (shiftIn bit w).toNat = 2 ^ 31 * bit.toNat + w.toNat / 2 := by
  have hw := window_lt w
  cases bit <;> simp [shiftIn] <;> omega

/-- The cells after a shift: each holds what the next one held, and the tail the new bit. -/
theorem shiftIn_getLsbD (bit : Bit) (w : Window) (i : Nat) (hi : i < 32) :
    (shiftIn bit w).getLsbD i = if i < 31 then w.getLsbD (i + 1) else bit := by
  have hw := window_lt w
  have h31 : w.toNat / 2 < 2 ^ 31 := by omega
  rw [← BitVec.testBit_toNat, shiftIn_toNat, Nat.testBit_two_pow_mul_add _ h31]
  split
  · rw [Nat.testBit_div_two, BitVec.testBit_toNat]
  · have : i = 31 := by omega
    subst this
    cases bit <;> simp

/-- The snapped target is the height as a number (R153). -/
@[simp] theorem snapTarget_toInt (cur : BitVec 8) : (snapTarget cur).toInt = (cur.toNat : Int) := by
  have h := cur.isLt
  rw [snapTarget, BitVec.toInt_eq_toNat_of_lt] <;> simp <;> omega

/-- Within 16 signed bits a target keeps its value (R80). -/
theorem toInt_ofInt_target (n : Int) (h : -32768 ≤ n ∧ n ≤ 32767) :
    (BitVec.ofInt 16 n).toInt = n := by
  rw [BitVec.toInt_ofInt, Int.bmod_def]
  omega

/-- The complement of R123 as a number. -/
theorem candidateOf_toNat (raw : FieldByte) : (candidateOf raw).toNat = 255 - raw.toNat := by
  have h := field_lt raw
  rw [candidateOf, BitVec.toNat_ofNat]
  change (2 ^ 8 - 1 - raw.toNat) % 2 ^ 8 = 255 - raw.toNat
  omega

/-- The complement of R123 is the bitwise one. -/
theorem candidateOf_eq_not (raw : FieldByte) : candidateOf raw = ~~~raw := by
  apply BitVec.eq_of_toNat_eq
  rw [candidateOf_toNat, BitVec.toNat_not]
  rfl

end Sys2Proof.Machine
end

