-- ==== Sys2Proof/Laws/State.lean ====
section
/-! SUPPORT. The small lemmas of the state updates: for each update, what every field is after it.
All hold by unfolding the update once, so that no other proof does. -/

namespace Sys2Proof.Machine

/-! ## writeRelayUp -/

@[simp] theorem writeRelayUp_linePrev (v : Bit) (s : State) :
    (writeRelayUp v s).linePrev = s.linePrev := rfl
@[simp] theorem writeRelayUp_phase (v : Bit) (s : State) : (writeRelayUp v s).phase = s.phase := rfl
@[simp] theorem writeRelayUp_window (v : Bit) (s : State) :
    (writeRelayUp v s).window = s.window := rfl
@[simp] theorem writeRelayUp_curHeight (v : Bit) (s : State) :
    (writeRelayUp v s).curHeight = s.curHeight := rfl
@[simp] theorem writeRelayUp_tgtHeight (v : Bit) (s : State) :
    (writeRelayUp v s).tgtHeight = s.tgtHeight := rfl
@[simp] theorem writeRelayUp_motion (v : Bit) (s : State) :
    (writeRelayUp v s).motion = s.motion := rfl
@[simp] theorem writeRelayUp_mode (v : Bit) (s : State) : (writeRelayUp v s).mode = s.mode := rfl
@[simp] theorem writeRelayUp_relayUp (v : Bit) (s : State) : (writeRelayUp v s).relayUp = v := rfl
@[simp] theorem writeRelayUp_relayDown (v : Bit) (s : State) :
    (writeRelayUp v s).relayDown = s.relayDown := rfl
@[simp] theorem writeRelayUp_lastPub (v : Bit) (s : State) :
    (writeRelayUp v s).lastPub = s.lastPub := rfl
@[simp] theorem writeRelayUp_pubTimer (v : Bit) (s : State) :
    (writeRelayUp v s).pubTimer = s.pubTimer := rfl
@[simp] theorem writeRelayUp_rst (v : Bit) (s : State) : (writeRelayUp v s).rst = s.rst := rfl
@[simp] theorem writeRelayUp_piw (v : Bit) (s : State) : (writeRelayUp v s).piw = s.piw := rfl
@[simp] theorem writeRelayUp_pow (v : Bit) (s : State) : (writeRelayUp v s).pow = s.pow := rfl
@[simp] theorem writeRelayUp_obs (v : Bit) (s : State) :
    (writeRelayUp v s).obs = ({ s.obs with events := s.obs.events ++ [.up v] } : Observation) := rfl
@[simp] theorem writeRelayUp_stimulus (v : Bit) (s : State) :
    (writeRelayUp v s).stimulus = s.stimulus := rfl

/-! ## writeRelayDown -/

@[simp] theorem writeRelayDown_linePrev (v : Bit) (s : State) :
    (writeRelayDown v s).linePrev = s.linePrev := rfl
@[simp] theorem writeRelayDown_phase (v : Bit) (s : State) :
    (writeRelayDown v s).phase = s.phase := rfl
@[simp] theorem writeRelayDown_window (v : Bit) (s : State) :
    (writeRelayDown v s).window = s.window := rfl
@[simp] theorem writeRelayDown_curHeight (v : Bit) (s : State) :
    (writeRelayDown v s).curHeight = s.curHeight := rfl
@[simp] theorem writeRelayDown_tgtHeight (v : Bit) (s : State) :
    (writeRelayDown v s).tgtHeight = s.tgtHeight := rfl
@[simp] theorem writeRelayDown_motion (v : Bit) (s : State) :
    (writeRelayDown v s).motion = s.motion := rfl
@[simp] theorem writeRelayDown_mode (v : Bit) (s : State) :
    (writeRelayDown v s).mode = s.mode := rfl
@[simp] theorem writeRelayDown_relayUp (v : Bit) (s : State) :
    (writeRelayDown v s).relayUp = s.relayUp := rfl
@[simp] theorem writeRelayDown_relayDown (v : Bit) (s : State) :
    (writeRelayDown v s).relayDown = v := rfl
@[simp] theorem writeRelayDown_lastPub (v : Bit) (s : State) :
    (writeRelayDown v s).lastPub = s.lastPub := rfl
@[simp] theorem writeRelayDown_pubTimer (v : Bit) (s : State) :
    (writeRelayDown v s).pubTimer = s.pubTimer := rfl
@[simp] theorem writeRelayDown_rst (v : Bit) (s : State) : (writeRelayDown v s).rst = s.rst := rfl
@[simp] theorem writeRelayDown_piw (v : Bit) (s : State) : (writeRelayDown v s).piw = s.piw := rfl
@[simp] theorem writeRelayDown_pow (v : Bit) (s : State) : (writeRelayDown v s).pow = s.pow := rfl
@[simp] theorem writeRelayDown_obs (v : Bit) (s : State) :
    (writeRelayDown v s).obs = ({ s.obs with events := s.obs.events ++ [.dn v] } : Observation) := rfl
@[simp] theorem writeRelayDown_stimulus (v : Bit) (s : State) :
    (writeRelayDown v s).stimulus = s.stimulus := rfl

/-! ## snap -/

@[simp] theorem snap_linePrev (s : State) : (snap s).linePrev = s.linePrev := rfl
@[simp] theorem snap_phase (s : State) : (snap s).phase = s.phase := rfl
@[simp] theorem snap_window (s : State) : (snap s).window = s.window := rfl
@[simp] theorem snap_curHeight (s : State) : (snap s).curHeight = s.curHeight := rfl
@[simp] theorem snap_tgtHeight (s : State) : (snap s).tgtHeight = snapTarget s.curHeight := rfl
@[simp] theorem snap_motion (s : State) : (snap s).motion = s.motion := rfl
@[simp] theorem snap_mode (s : State) : (snap s).mode = s.mode := rfl
@[simp] theorem snap_relayUp (s : State) : (snap s).relayUp = s.relayUp := rfl
@[simp] theorem snap_relayDown (s : State) : (snap s).relayDown = s.relayDown := rfl
@[simp] theorem snap_lastPub (s : State) : (snap s).lastPub = s.lastPub := rfl
@[simp] theorem snap_pubTimer (s : State) : (snap s).pubTimer = s.pubTimer := rfl
@[simp] theorem snap_rst (s : State) : (snap s).rst = s.rst := rfl
@[simp] theorem snap_piw (s : State) : (snap s).piw = s.piw := rfl
@[simp] theorem snap_pow (s : State) : (snap s).pow = s.pow := rfl
@[simp] theorem snap_obs (s : State) : (snap s).obs = s.obs := rfl
@[simp] theorem snap_stimulus (s : State) : (snap s).stimulus = s.stimulus := rfl

/-! ## takeEdge -/

@[simp] theorem takeEdge_linePrev (s : State) : (takeEdge s).linePrev = s.linePrev := rfl
@[simp] theorem takeEdge_phase (s : State) : (takeEdge s).phase = 500#10 := rfl
@[simp] theorem takeEdge_window (s : State) : (takeEdge s).window = s.window := rfl
@[simp] theorem takeEdge_curHeight (s : State) : (takeEdge s).curHeight = s.curHeight := rfl
@[simp] theorem takeEdge_tgtHeight (s : State) : (takeEdge s).tgtHeight = s.tgtHeight := rfl
@[simp] theorem takeEdge_motion (s : State) : (takeEdge s).motion = s.motion := rfl
@[simp] theorem takeEdge_mode (s : State) : (takeEdge s).mode = s.mode := rfl
@[simp] theorem takeEdge_relayUp (s : State) : (takeEdge s).relayUp = s.relayUp := rfl
@[simp] theorem takeEdge_relayDown (s : State) : (takeEdge s).relayDown = s.relayDown := rfl
@[simp] theorem takeEdge_lastPub (s : State) : (takeEdge s).lastPub = s.lastPub := rfl
@[simp] theorem takeEdge_pubTimer (s : State) : (takeEdge s).pubTimer = s.pubTimer := rfl
@[simp] theorem takeEdge_rst (s : State) : (takeEdge s).rst = s.rst := rfl
@[simp] theorem takeEdge_piw (s : State) : (takeEdge s).piw = s.piw := rfl
@[simp] theorem takeEdge_pow (s : State) : (takeEdge s).pow = s.pow := rfl
@[simp] theorem takeEdge_obs (s : State) : (takeEdge s).obs = s.obs := rfl
@[simp] theorem takeEdge_stimulus (s : State) : (takeEdge s).stimulus = s.stimulus := rfl

/-! ## detectEdge -/

@[simp] theorem detectEdge_linePrev (line : Bit) (s : State) :
    (detectEdge line s).linePrev = line := rfl
@[simp] theorem detectEdge_phase (line : Bit) (s : State) :
    (detectEdge line s).phase = s.phase := rfl
@[simp] theorem detectEdge_window (line : Bit) (s : State) :
    (detectEdge line s).window = s.window := rfl
@[simp] theorem detectEdge_curHeight (line : Bit) (s : State) :
    (detectEdge line s).curHeight = s.curHeight := rfl
@[simp] theorem detectEdge_tgtHeight (line : Bit) (s : State) :
    (detectEdge line s).tgtHeight = s.tgtHeight := rfl
@[simp] theorem detectEdge_motion (line : Bit) (s : State) :
    (detectEdge line s).motion = s.motion := rfl
@[simp] theorem detectEdge_mode (line : Bit) (s : State) : (detectEdge line s).mode = s.mode := rfl
@[simp] theorem detectEdge_relayUp (line : Bit) (s : State) :
    (detectEdge line s).relayUp = s.relayUp := rfl
@[simp] theorem detectEdge_relayDown (line : Bit) (s : State) :
    (detectEdge line s).relayDown = s.relayDown := rfl
@[simp] theorem detectEdge_lastPub (line : Bit) (s : State) :
    (detectEdge line s).lastPub = s.lastPub := rfl
@[simp] theorem detectEdge_pubTimer (line : Bit) (s : State) :
    (detectEdge line s).pubTimer = s.pubTimer := rfl
@[simp] theorem detectEdge_rst (line : Bit) (s : State) : (detectEdge line s).rst = s.rst := rfl
@[simp] theorem detectEdge_piw (line : Bit) (s : State) : (detectEdge line s).piw = s.piw := rfl
@[simp] theorem detectEdge_pow (line : Bit) (s : State) : (detectEdge line s).pow = s.pow := rfl
@[simp] theorem detectEdge_obs (line : Bit) (s : State) :
    (detectEdge line s).obs = ({ s.obs with edge := line != s.linePrev } : Observation) := rfl
@[simp] theorem detectEdge_stimulus (line : Bit) (s : State) :
    (detectEdge line s).stimulus = s.stimulus := rfl

/-! ## clearObs -/

@[simp] theorem clearObs_linePrev (s : State) : (clearObs s).linePrev = s.linePrev := rfl
@[simp] theorem clearObs_phase (s : State) : (clearObs s).phase = s.phase := rfl
@[simp] theorem clearObs_window (s : State) : (clearObs s).window = s.window := rfl
@[simp] theorem clearObs_curHeight (s : State) : (clearObs s).curHeight = s.curHeight := rfl
@[simp] theorem clearObs_tgtHeight (s : State) : (clearObs s).tgtHeight = s.tgtHeight := rfl
@[simp] theorem clearObs_motion (s : State) : (clearObs s).motion = s.motion := rfl
@[simp] theorem clearObs_mode (s : State) : (clearObs s).mode = s.mode := rfl
@[simp] theorem clearObs_relayUp (s : State) : (clearObs s).relayUp = s.relayUp := rfl
@[simp] theorem clearObs_relayDown (s : State) : (clearObs s).relayDown = s.relayDown := rfl
@[simp] theorem clearObs_lastPub (s : State) : (clearObs s).lastPub = s.lastPub := rfl
@[simp] theorem clearObs_pubTimer (s : State) : (clearObs s).pubTimer = s.pubTimer := rfl
@[simp] theorem clearObs_rst (s : State) : (clearObs s).rst = s.rst := rfl
@[simp] theorem clearObs_piw (s : State) : (clearObs s).piw = s.piw := rfl
@[simp] theorem clearObs_pow (s : State) : (clearObs s).pow = s.pow := rfl
@[simp] theorem clearObs_obs (s : State) : (clearObs s).obs = Observation.blank := rfl
@[simp] theorem clearObs_stimulus (s : State) : (clearObs s).stimulus = s.stimulus := rfl

/-! ## driveOutputs -/

@[simp] theorem driveOutputs_linePrev (s : State) : (driveOutputs s).linePrev = s.linePrev := rfl
@[simp] theorem driveOutputs_phase (s : State) : (driveOutputs s).phase = s.phase := rfl
@[simp] theorem driveOutputs_window (s : State) : (driveOutputs s).window = s.window := rfl
@[simp] theorem driveOutputs_curHeight (s : State) : (driveOutputs s).curHeight = s.curHeight := rfl
@[simp] theorem driveOutputs_tgtHeight (s : State) : (driveOutputs s).tgtHeight = s.tgtHeight := rfl
@[simp] theorem driveOutputs_motion (s : State) : (driveOutputs s).motion = s.motion := rfl
@[simp] theorem driveOutputs_mode (s : State) : (driveOutputs s).mode = s.mode := rfl
@[simp] theorem driveOutputs_relayUp (s : State) : (driveOutputs s).relayUp = s.relayUp := rfl
@[simp] theorem driveOutputs_relayDown (s : State) : (driveOutputs s).relayDown = s.relayDown := rfl
@[simp] theorem driveOutputs_lastPub (s : State) : (driveOutputs s).lastPub = s.lastPub := rfl
@[simp] theorem driveOutputs_pubTimer (s : State) : (driveOutputs s).pubTimer = s.pubTimer := rfl
@[simp] theorem driveOutputs_rst (s : State) : (driveOutputs s).rst = s.rst := rfl
@[simp] theorem driveOutputs_piw (s : State) : (driveOutputs s).piw = s.piw := rfl
@[simp] theorem driveOutputs_pow (s : State) : (driveOutputs s).pow = outputWord s := rfl
@[simp] theorem driveOutputs_obs (s : State) : (driveOutputs s).obs = s.obs := rfl
@[simp] theorem driveOutputs_stimulus (s : State) : (driveOutputs s).stimulus = s.stimulus := rfl

/-! ## present -/

@[simp] theorem present_linePrev (l : Stimulus) (s : State) :
    (present l s).linePrev = s.linePrev := rfl
@[simp] theorem present_phase (l : Stimulus) (s : State) : (present l s).phase = s.phase := rfl
@[simp] theorem present_window (l : Stimulus) (s : State) : (present l s).window = s.window := rfl
@[simp] theorem present_curHeight (l : Stimulus) (s : State) :
    (present l s).curHeight = s.curHeight := rfl
@[simp] theorem present_tgtHeight (l : Stimulus) (s : State) :
    (present l s).tgtHeight = s.tgtHeight := rfl
@[simp] theorem present_motion (l : Stimulus) (s : State) : (present l s).motion = s.motion := rfl
@[simp] theorem present_mode (l : Stimulus) (s : State) : (present l s).mode = s.mode := rfl
@[simp] theorem present_relayUp (l : Stimulus) (s : State) :
    (present l s).relayUp = s.relayUp := rfl
@[simp] theorem present_relayDown (l : Stimulus) (s : State) :
    (present l s).relayDown = s.relayDown := rfl
@[simp] theorem present_lastPub (l : Stimulus) (s : State) :
    (present l s).lastPub = s.lastPub := rfl
@[simp] theorem present_pubTimer (l : Stimulus) (s : State) :
    (present l s).pubTimer = s.pubTimer := rfl
@[simp] theorem present_rst (l : Stimulus) (s : State) : (present l s).rst = s.rst := rfl
@[simp] theorem present_piw (l : Stimulus) (s : State) : (present l s).piw = s.piw := rfl
@[simp] theorem present_pow (l : Stimulus) (s : State) : (present l s).pow = s.pow := rfl
@[simp] theorem present_obs (l : Stimulus) (s : State) : (present l s).obs = s.obs := rfl
@[simp] theorem present_stimulus (l : Stimulus) (s : State) :
    (present l s).stimulus = l :: s.stimulus := rfl

/-! ## tick -/

@[simp] theorem tick_linePrev (edge : Bit) (s : State) : (tick edge s).linePrev = s.linePrev := rfl
@[simp] theorem tick_phase (edge : Bit) (s : State) :
    (tick edge s).phase = if edge then s.phase else nextPhase s.phase := rfl
@[simp] theorem tick_window (edge : Bit) (s : State) : (tick edge s).window = s.window := rfl
@[simp] theorem tick_curHeight (edge : Bit) (s : State) :
    (tick edge s).curHeight = s.curHeight := rfl
@[simp] theorem tick_tgtHeight (edge : Bit) (s : State) :
    (tick edge s).tgtHeight = s.tgtHeight := rfl
@[simp] theorem tick_motion (edge : Bit) (s : State) : (tick edge s).motion = s.motion := rfl
@[simp] theorem tick_mode (edge : Bit) (s : State) : (tick edge s).mode = s.mode := rfl
@[simp] theorem tick_relayUp (edge : Bit) (s : State) : (tick edge s).relayUp = s.relayUp := rfl
@[simp] theorem tick_relayDown (edge : Bit) (s : State) :
    (tick edge s).relayDown = s.relayDown := rfl
@[simp] theorem tick_lastPub (edge : Bit) (s : State) : (tick edge s).lastPub = s.lastPub := rfl
@[simp] theorem tick_pubTimer (edge : Bit) (s : State) : (tick edge s).pubTimer = s.pubTimer := rfl
@[simp] theorem tick_rst (edge : Bit) (s : State) : (tick edge s).rst = s.rst := rfl
@[simp] theorem tick_piw (edge : Bit) (s : State) : (tick edge s).piw = s.piw := rfl
@[simp] theorem tick_pow (edge : Bit) (s : State) : (tick edge s).pow = s.pow := rfl
@[simp] theorem tick_obs (edge : Bit) (s : State) :
    (tick edge s).obs = ({ s.obs with fired := firedFlag edge s.phase } : Observation) := rfl
@[simp] theorem tick_stimulus (edge : Bit) (s : State) : (tick edge s).stimulus = s.stimulus := rfl

/-! ## sampleLine -/

@[simp] theorem sampleLine_linePrev (line : Bit) (s : State) :
    (sampleLine line s).linePrev = s.linePrev := rfl
@[simp] theorem sampleLine_phase (line : Bit) (s : State) :
    (sampleLine line s).phase = s.phase := rfl
@[simp] theorem sampleLine_window (line : Bit) (s : State) :
    (sampleLine line s).window = s.window := rfl
@[simp] theorem sampleLine_curHeight (line : Bit) (s : State) :
    (sampleLine line s).curHeight = s.curHeight := rfl
@[simp] theorem sampleLine_tgtHeight (line : Bit) (s : State) :
    (sampleLine line s).tgtHeight = s.tgtHeight := rfl
@[simp] theorem sampleLine_motion (line : Bit) (s : State) :
    (sampleLine line s).motion = s.motion := rfl
@[simp] theorem sampleLine_mode (line : Bit) (s : State) : (sampleLine line s).mode = s.mode := rfl
@[simp] theorem sampleLine_relayUp (line : Bit) (s : State) :
    (sampleLine line s).relayUp = s.relayUp := rfl
@[simp] theorem sampleLine_relayDown (line : Bit) (s : State) :
    (sampleLine line s).relayDown = s.relayDown := rfl
@[simp] theorem sampleLine_lastPub (line : Bit) (s : State) :
    (sampleLine line s).lastPub = s.lastPub := rfl
@[simp] theorem sampleLine_pubTimer (line : Bit) (s : State) :
    (sampleLine line s).pubTimer = s.pubTimer := rfl
@[simp] theorem sampleLine_rst (line : Bit) (s : State) : (sampleLine line s).rst = s.rst := rfl
@[simp] theorem sampleLine_piw (line : Bit) (s : State) : (sampleLine line s).piw = s.piw := rfl
@[simp] theorem sampleLine_pow (line : Bit) (s : State) : (sampleLine line s).pow = s.pow := rfl
@[simp] theorem sampleLine_obs (line : Bit) (s : State) :
    (sampleLine line s).obs = ({ s.obs with bit := some line } : Observation) := rfl
@[simp] theorem sampleLine_stimulus (line : Bit) (s : State) :
    (sampleLine line s).stimulus = s.stimulus := rfl

/-! ## pushBit -/

@[simp] theorem pushBit_linePrev (bit : Bit) (s : State) :
    (pushBit bit s).linePrev = s.linePrev := rfl
@[simp] theorem pushBit_phase (bit : Bit) (s : State) : (pushBit bit s).phase = s.phase := rfl
@[simp] theorem pushBit_window (bit : Bit) (s : State) :
    (pushBit bit s).window = shiftIn bit s.window := rfl
@[simp] theorem pushBit_curHeight (bit : Bit) (s : State) :
    (pushBit bit s).curHeight = s.curHeight := rfl
@[simp] theorem pushBit_tgtHeight (bit : Bit) (s : State) :
    (pushBit bit s).tgtHeight = s.tgtHeight := rfl
@[simp] theorem pushBit_motion (bit : Bit) (s : State) : (pushBit bit s).motion = s.motion := rfl
@[simp] theorem pushBit_mode (bit : Bit) (s : State) : (pushBit bit s).mode = s.mode := rfl
@[simp] theorem pushBit_relayUp (bit : Bit) (s : State) : (pushBit bit s).relayUp = s.relayUp := rfl
@[simp] theorem pushBit_relayDown (bit : Bit) (s : State) :
    (pushBit bit s).relayDown = s.relayDown := rfl
@[simp] theorem pushBit_lastPub (bit : Bit) (s : State) : (pushBit bit s).lastPub = s.lastPub := rfl
@[simp] theorem pushBit_pubTimer (bit : Bit) (s : State) :
    (pushBit bit s).pubTimer = s.pubTimer := rfl
@[simp] theorem pushBit_rst (bit : Bit) (s : State) : (pushBit bit s).rst = s.rst := rfl
@[simp] theorem pushBit_piw (bit : Bit) (s : State) : (pushBit bit s).piw = s.piw := rfl
@[simp] theorem pushBit_pow (bit : Bit) (s : State) : (pushBit bit s).pow = s.pow := rfl
@[simp] theorem pushBit_obs (bit : Bit) (s : State) : (pushBit bit s).obs = s.obs := rfl
@[simp] theorem pushBit_stimulus (bit : Bit) (s : State) :
    (pushBit bit s).stimulus = s.stimulus := rfl

/-! ## checkMatch -/

@[simp] theorem checkMatch_linePrev (P : Params) (s : State) :
    (checkMatch P s).linePrev = s.linePrev := rfl
@[simp] theorem checkMatch_phase (P : Params) (s : State) : (checkMatch P s).phase = s.phase := rfl
@[simp] theorem checkMatch_window (P : Params) (s : State) :
    (checkMatch P s).window = s.window := rfl
@[simp] theorem checkMatch_curHeight (P : Params) (s : State) :
    (checkMatch P s).curHeight = s.curHeight := rfl
@[simp] theorem checkMatch_tgtHeight (P : Params) (s : State) :
    (checkMatch P s).tgtHeight = s.tgtHeight := rfl
@[simp] theorem checkMatch_motion (P : Params) (s : State) :
    (checkMatch P s).motion = s.motion := rfl
@[simp] theorem checkMatch_mode (P : Params) (s : State) : (checkMatch P s).mode = s.mode := rfl
@[simp] theorem checkMatch_relayUp (P : Params) (s : State) :
    (checkMatch P s).relayUp = s.relayUp := rfl
@[simp] theorem checkMatch_relayDown (P : Params) (s : State) :
    (checkMatch P s).relayDown = s.relayDown := rfl
@[simp] theorem checkMatch_lastPub (P : Params) (s : State) :
    (checkMatch P s).lastPub = s.lastPub := rfl
@[simp] theorem checkMatch_pubTimer (P : Params) (s : State) :
    (checkMatch P s).pubTimer = s.pubTimer := rfl
@[simp] theorem checkMatch_rst (P : Params) (s : State) : (checkMatch P s).rst = s.rst := rfl
@[simp] theorem checkMatch_piw (P : Params) (s : State) : (checkMatch P s).piw = s.piw := rfl
@[simp] theorem checkMatch_pow (P : Params) (s : State) : (checkMatch P s).pow = s.pow := rfl
@[simp] theorem checkMatch_obs (P : Params) (s : State) :
    (checkMatch P s).obs = ({ s.obs with matchCount := some (matchCount P.syncPattern s.window) } : Observation) := rfl
@[simp] theorem checkMatch_stimulus (P : Params) (s : State) :
    (checkMatch P s).stimulus = s.stimulus := rfl

/-! ## extract -/

@[simp] theorem extract_linePrev (s : State) : (extract s).linePrev = s.linePrev := rfl
@[simp] theorem extract_phase (s : State) : (extract s).phase = s.phase := rfl
@[simp] theorem extract_window (s : State) : (extract s).window = s.window := rfl
@[simp] theorem extract_curHeight (s : State) : (extract s).curHeight = s.curHeight := rfl
@[simp] theorem extract_tgtHeight (s : State) : (extract s).tgtHeight = s.tgtHeight := rfl
@[simp] theorem extract_motion (s : State) : (extract s).motion = s.motion := rfl
@[simp] theorem extract_mode (s : State) : (extract s).mode = s.mode := rfl
@[simp] theorem extract_relayUp (s : State) : (extract s).relayUp = s.relayUp := rfl
@[simp] theorem extract_relayDown (s : State) : (extract s).relayDown = s.relayDown := rfl
@[simp] theorem extract_lastPub (s : State) : (extract s).lastPub = s.lastPub := rfl
@[simp] theorem extract_pubTimer (s : State) : (extract s).pubTimer = s.pubTimer := rfl
@[simp] theorem extract_rst (s : State) : (extract s).rst = s.rst := rfl
@[simp] theorem extract_piw (s : State) : (extract s).piw = s.piw := rfl
@[simp] theorem extract_pow (s : State) : (extract s).pow = s.pow := rfl
@[simp] theorem extract_obs (s : State) :
    (extract s).obs = ({ s.obs with
      raw := some (rawField s.window)
      candidate := some (candidateOf (rawField s.window)) } : Observation) := rfl
@[simp] theorem extract_stimulus (s : State) : (extract s).stimulus = s.stimulus := rfl

/-! ## transmitFrame -/

@[simp] theorem transmitFrame_linePrev (P : Params) (raw : BitVec 8) (tail : Bit) (s : State) :
    (transmitFrame P raw tail s).linePrev = s.linePrev := rfl
@[simp] theorem transmitFrame_phase (P : Params) (raw : BitVec 8) (tail : Bit) (s : State) :
    (transmitFrame P raw tail s).phase = s.phase := rfl
@[simp] theorem transmitFrame_window (P : Params) (raw : BitVec 8) (tail : Bit) (s : State) :
    (transmitFrame P raw tail s).window = s.window := rfl
@[simp] theorem transmitFrame_curHeight (P : Params) (raw : BitVec 8) (tail : Bit) (s : State) :
    (transmitFrame P raw tail s).curHeight = s.curHeight := rfl
@[simp] theorem transmitFrame_tgtHeight (P : Params) (raw : BitVec 8) (tail : Bit) (s : State) :
    (transmitFrame P raw tail s).tgtHeight = s.tgtHeight := rfl
@[simp] theorem transmitFrame_motion (P : Params) (raw : BitVec 8) (tail : Bit) (s : State) :
    (transmitFrame P raw tail s).motion = s.motion := rfl
@[simp] theorem transmitFrame_mode (P : Params) (raw : BitVec 8) (tail : Bit) (s : State) :
    (transmitFrame P raw tail s).mode = s.mode := rfl
@[simp] theorem transmitFrame_relayUp (P : Params) (raw : BitVec 8) (tail : Bit) (s : State) :
    (transmitFrame P raw tail s).relayUp = s.relayUp := rfl
@[simp] theorem transmitFrame_relayDown (P : Params) (raw : BitVec 8) (tail : Bit) (s : State) :
    (transmitFrame P raw tail s).relayDown = s.relayDown := rfl
@[simp] theorem transmitFrame_lastPub (P : Params) (raw : BitVec 8) (tail : Bit) (s : State) :
    (transmitFrame P raw tail s).lastPub = s.lastPub := rfl
@[simp] theorem transmitFrame_pubTimer (P : Params) (raw : BitVec 8) (tail : Bit) (s : State) :
    (transmitFrame P raw tail s).pubTimer = s.pubTimer := rfl
@[simp] theorem transmitFrame_rst (P : Params) (raw : BitVec 8) (tail : Bit) (s : State) :
    (transmitFrame P raw tail s).rst = s.rst := rfl
@[simp] theorem transmitFrame_piw (P : Params) (raw : BitVec 8) (tail : Bit) (s : State) :
    (transmitFrame P raw tail s).piw = s.piw := rfl
@[simp] theorem transmitFrame_pow (P : Params) (raw : BitVec 8) (tail : Bit) (s : State) :
    (transmitFrame P raw tail s).pow = s.pow := rfl
@[simp] theorem transmitFrame_obs (P : Params) (raw : BitVec 8) (tail : Bit) (s : State) :
    (transmitFrame P raw tail s).obs = s.obs := rfl
@[simp] theorem transmitFrame_stimulus (P : Params) (raw : BitVec 8) (tail : Bit) (s : State) :
    (transmitFrame P raw tail s).stimulus = wireFrame P.syncPattern raw tail ++ s.stimulus := rfl

/-! ## enterUp -/

@[simp] theorem enterUp_linePrev (s : State) : (enterUp s).linePrev = s.linePrev := rfl
@[simp] theorem enterUp_phase (s : State) : (enterUp s).phase = s.phase := rfl
@[simp] theorem enterUp_window (s : State) : (enterUp s).window = s.window := rfl
@[simp] theorem enterUp_curHeight (s : State) : (enterUp s).curHeight = s.curHeight := rfl
@[simp] theorem enterUp_tgtHeight (s : State) : (enterUp s).tgtHeight = s.tgtHeight := rfl
@[simp] theorem enterUp_motion (s : State) : (enterUp s).motion = .movingUp := rfl
@[simp] theorem enterUp_mode (s : State) : (enterUp s).mode = s.mode := rfl
@[simp] theorem enterUp_relayUp (s : State) : (enterUp s).relayUp = true := rfl
@[simp] theorem enterUp_relayDown (s : State) : (enterUp s).relayDown = false := rfl
@[simp] theorem enterUp_lastPub (s : State) : (enterUp s).lastPub = s.lastPub := rfl
@[simp] theorem enterUp_pubTimer (s : State) : (enterUp s).pubTimer = s.pubTimer := rfl
@[simp] theorem enterUp_rst (s : State) : (enterUp s).rst = s.rst := rfl
@[simp] theorem enterUp_piw (s : State) : (enterUp s).piw = s.piw := rfl
@[simp] theorem enterUp_pow (s : State) : (enterUp s).pow = s.pow := rfl
@[simp] theorem enterUp_obs (s : State) :
    (enterUp s).obs = ({ s.obs with events := s.obs.events ++ [.dn false] ++ [.up true] } : Observation) := rfl
@[simp] theorem enterUp_stimulus (s : State) : (enterUp s).stimulus = s.stimulus := rfl

/-! ## enterDown -/

@[simp] theorem enterDown_linePrev (s : State) : (enterDown s).linePrev = s.linePrev := rfl
@[simp] theorem enterDown_phase (s : State) : (enterDown s).phase = s.phase := rfl
@[simp] theorem enterDown_window (s : State) : (enterDown s).window = s.window := rfl
@[simp] theorem enterDown_curHeight (s : State) : (enterDown s).curHeight = s.curHeight := rfl
@[simp] theorem enterDown_tgtHeight (s : State) : (enterDown s).tgtHeight = s.tgtHeight := rfl
@[simp] theorem enterDown_motion (s : State) : (enterDown s).motion = .movingDown := rfl
@[simp] theorem enterDown_mode (s : State) : (enterDown s).mode = s.mode := rfl
@[simp] theorem enterDown_relayUp (s : State) : (enterDown s).relayUp = false := rfl
@[simp] theorem enterDown_relayDown (s : State) : (enterDown s).relayDown = true := rfl
@[simp] theorem enterDown_lastPub (s : State) : (enterDown s).lastPub = s.lastPub := rfl
@[simp] theorem enterDown_pubTimer (s : State) : (enterDown s).pubTimer = s.pubTimer := rfl
@[simp] theorem enterDown_rst (s : State) : (enterDown s).rst = s.rst := rfl
@[simp] theorem enterDown_piw (s : State) : (enterDown s).piw = s.piw := rfl
@[simp] theorem enterDown_pow (s : State) : (enterDown s).pow = s.pow := rfl
@[simp] theorem enterDown_obs (s : State) :
    (enterDown s).obs = ({ s.obs with events := s.obs.events ++ [.up false] ++ [.dn true] } : Observation) := rfl
@[simp] theorem enterDown_stimulus (s : State) : (enterDown s).stimulus = s.stimulus := rfl

/-! ## stop -/

@[simp] theorem stop_linePrev (s : State) : (stop s).linePrev = s.linePrev := rfl
@[simp] theorem stop_phase (s : State) : (stop s).phase = s.phase := rfl
@[simp] theorem stop_window (s : State) : (stop s).window = s.window := rfl
@[simp] theorem stop_curHeight (s : State) : (stop s).curHeight = s.curHeight := rfl
@[simp] theorem stop_tgtHeight (s : State) : (stop s).tgtHeight = snapTarget s.curHeight := rfl
@[simp] theorem stop_motion (s : State) : (stop s).motion = .stopped := rfl
@[simp] theorem stop_mode (s : State) : (stop s).mode = s.mode := rfl
@[simp] theorem stop_relayUp (s : State) : (stop s).relayUp = false := rfl
@[simp] theorem stop_relayDown (s : State) : (stop s).relayDown = false := rfl
@[simp] theorem stop_lastPub (s : State) : (stop s).lastPub = s.lastPub := rfl
@[simp] theorem stop_pubTimer (s : State) : (stop s).pubTimer = s.pubTimer := rfl
@[simp] theorem stop_rst (s : State) : (stop s).rst = s.rst := rfl
@[simp] theorem stop_piw (s : State) : (stop s).piw = s.piw := rfl
@[simp] theorem stop_pow (s : State) : (stop s).pow = s.pow := rfl
@[simp] theorem stop_obs (s : State) :
    (stop s).obs = ({ s.obs with events := s.obs.events ++ [.up false] ++ [.dn false] } : Observation) := rfl
@[simp] theorem stop_stimulus (s : State) : (stop s).stimulus = s.stimulus := rfl

/-! ## startToward -/

@[simp] theorem startToward_linePrev (n : Int) (s : State) :
    (startToward n s).linePrev = s.linePrev := rfl
@[simp] theorem startToward_phase (n : Int) (s : State) : (startToward n s).phase = s.phase := rfl
@[simp] theorem startToward_window (n : Int) (s : State) :
    (startToward n s).window = s.window := rfl
@[simp] theorem startToward_curHeight (n : Int) (s : State) :
    (startToward n s).curHeight = s.curHeight := rfl
@[simp] theorem startToward_tgtHeight (n : Int) (s : State) :
    (startToward n s).tgtHeight = BitVec.ofInt 16 n := rfl
@[simp] theorem startToward_motion (n : Int) (s : State) :
    (startToward n s).motion = s.motion := rfl
@[simp] theorem startToward_mode (n : Int) (s : State) : (startToward n s).mode = s.mode := rfl
@[simp] theorem startToward_relayUp (n : Int) (s : State) :
    (startToward n s).relayUp = s.relayUp := rfl
@[simp] theorem startToward_relayDown (n : Int) (s : State) :
    (startToward n s).relayDown = s.relayDown := rfl
@[simp] theorem startToward_lastPub (n : Int) (s : State) :
    (startToward n s).lastPub = s.lastPub := rfl
@[simp] theorem startToward_pubTimer (n : Int) (s : State) :
    (startToward n s).pubTimer = s.pubTimer := rfl
@[simp] theorem startToward_rst (n : Int) (s : State) : (startToward n s).rst = s.rst := rfl
@[simp] theorem startToward_piw (n : Int) (s : State) : (startToward n s).piw = s.piw := rfl
@[simp] theorem startToward_pow (n : Int) (s : State) : (startToward n s).pow = s.pow := rfl
@[simp] theorem startToward_obs (n : Int) (s : State) :
    (startToward n s).obs = ({ s.obs with commandReason := none } : Observation) := rfl
@[simp] theorem startToward_stimulus (n : Int) (s : State) :
    (startToward n s).stimulus = s.stimulus := rfl

/-! ## noteCommand -/

@[simp] theorem noteCommand_linePrev (r : Reason) (s : State) :
    (noteCommand r s).linePrev = s.linePrev := rfl
@[simp] theorem noteCommand_phase (r : Reason) (s : State) :
    (noteCommand r s).phase = s.phase := rfl
@[simp] theorem noteCommand_window (r : Reason) (s : State) :
    (noteCommand r s).window = s.window := rfl
@[simp] theorem noteCommand_curHeight (r : Reason) (s : State) :
    (noteCommand r s).curHeight = s.curHeight := rfl
@[simp] theorem noteCommand_tgtHeight (r : Reason) (s : State) :
    (noteCommand r s).tgtHeight = s.tgtHeight := rfl
@[simp] theorem noteCommand_motion (r : Reason) (s : State) :
    (noteCommand r s).motion = s.motion := rfl
@[simp] theorem noteCommand_mode (r : Reason) (s : State) : (noteCommand r s).mode = s.mode := rfl
@[simp] theorem noteCommand_relayUp (r : Reason) (s : State) :
    (noteCommand r s).relayUp = s.relayUp := rfl
@[simp] theorem noteCommand_relayDown (r : Reason) (s : State) :
    (noteCommand r s).relayDown = s.relayDown := rfl
@[simp] theorem noteCommand_lastPub (r : Reason) (s : State) :
    (noteCommand r s).lastPub = s.lastPub := rfl
@[simp] theorem noteCommand_pubTimer (r : Reason) (s : State) :
    (noteCommand r s).pubTimer = s.pubTimer := rfl
@[simp] theorem noteCommand_rst (r : Reason) (s : State) : (noteCommand r s).rst = s.rst := rfl
@[simp] theorem noteCommand_piw (r : Reason) (s : State) : (noteCommand r s).piw = s.piw := rfl
@[simp] theorem noteCommand_pow (r : Reason) (s : State) : (noteCommand r s).pow = s.pow := rfl
@[simp] theorem noteCommand_obs (r : Reason) (s : State) :
    (noteCommand r s).obs = ({ s.obs with commandReason := some r } : Observation) := rfl
@[simp] theorem noteCommand_stimulus (r : Reason) (s : State) :
    (noteCommand r s).stimulus = s.stimulus := rfl

/-! ## publish -/

@[simp] theorem publish_linePrev (s : State) : (publish s).linePrev = s.linePrev := rfl
@[simp] theorem publish_phase (s : State) : (publish s).phase = s.phase := rfl
@[simp] theorem publish_window (s : State) : (publish s).window = s.window := rfl
@[simp] theorem publish_curHeight (s : State) : (publish s).curHeight = s.curHeight := rfl
@[simp] theorem publish_tgtHeight (s : State) : (publish s).tgtHeight = s.tgtHeight := rfl
@[simp] theorem publish_motion (s : State) : (publish s).motion = s.motion := rfl
@[simp] theorem publish_mode (s : State) : (publish s).mode = s.mode := rfl
@[simp] theorem publish_relayUp (s : State) : (publish s).relayUp = s.relayUp := rfl
@[simp] theorem publish_relayDown (s : State) : (publish s).relayDown = s.relayDown := rfl
@[simp] theorem publish_lastPub (s : State) :
    (publish s).lastPub = if publishes s.pubTimer s.curHeight s.lastPub then s.curHeight else s.lastPub := rfl
@[simp] theorem publish_pubTimer (s : State) :
    (publish s).pubTimer = if publishDue s.pubTimer then 0#23 else s.pubTimer + 1#23 := rfl
@[simp] theorem publish_rst (s : State) : (publish s).rst = s.rst := rfl
@[simp] theorem publish_piw (s : State) : (publish s).piw = s.piw := rfl
@[simp] theorem publish_pow (s : State) : (publish s).pow = s.pow := rfl
@[simp] theorem publish_obs (s : State) :
    (publish s).obs = ({ s.obs with
      pubStrobe := publishes s.pubTimer s.curHeight s.lastPub
      pubValue := if publishes s.pubTimer s.curHeight s.lastPub then s.curHeight else 0#8 } : Observation) := rfl
@[simp] theorem publish_stimulus (s : State) : (publish s).stimulus = s.stimulus := rfl

/-! ## resetBlock -/

@[simp] theorem resetBlock_linePrev (s : State) : (resetBlock s).linePrev = false := rfl
@[simp] theorem resetBlock_phase (s : State) : (resetBlock s).phase = 0#10 := rfl
@[simp] theorem resetBlock_window (s : State) : (resetBlock s).window = 0#32 := rfl
@[simp] theorem resetBlock_curHeight (s : State) : (resetBlock s).curHeight = 0#8 := rfl
@[simp] theorem resetBlock_tgtHeight (s : State) : (resetBlock s).tgtHeight = 0#16 := rfl
@[simp] theorem resetBlock_motion (s : State) : (resetBlock s).motion = .stopped := rfl
@[simp] theorem resetBlock_mode (s : State) : (resetBlock s).mode = .auto := rfl
@[simp] theorem resetBlock_relayUp (s : State) : (resetBlock s).relayUp = false := rfl
@[simp] theorem resetBlock_relayDown (s : State) : (resetBlock s).relayDown = false := rfl
@[simp] theorem resetBlock_lastPub (s : State) : (resetBlock s).lastPub = 0#8 := rfl
@[simp] theorem resetBlock_pubTimer (s : State) : (resetBlock s).pubTimer = 0#23 := rfl
@[simp] theorem resetBlock_rst (s : State) : (resetBlock s).rst = s.rst := rfl
@[simp] theorem resetBlock_piw (s : State) : (resetBlock s).piw = s.piw := rfl
@[simp] theorem resetBlock_pow (s : State) : (resetBlock s).pow = 0#19 := rfl
@[simp] theorem resetBlock_obs (s : State) :
    (resetBlock s).obs = ({ events := [.up false, .dn false] } : Observation) := rfl
@[simp] theorem resetBlock_stimulus (s : State) : (resetBlock s).stimulus = s.stimulus := rfl

end Sys2Proof.Machine
end

