-- ==== Sys2Proof/Laws/Frames.lean ====
section
/-! SUPPORT. What each conditional operation leaves as it is, field by field; the spec lemma of each
is in Sys2Proof/Laws/Ops.lean. -/

namespace Sys2Proof.Machine

/-! ## accept -/

@[simp] theorem accept_linePrev (c : Nat) (s : State) :
    (accept c s).linePrev = s.linePrev := by
  unfold accept; split <;> rfl

@[simp] theorem accept_phase (c : Nat) (s : State) :
    (accept c s).phase = s.phase := by
  unfold accept; split <;> rfl

@[simp] theorem accept_window (c : Nat) (s : State) :
    (accept c s).window = s.window := by
  unfold accept; split <;> rfl

@[simp] theorem accept_tgtHeight (c : Nat) (s : State) :
    (accept c s).tgtHeight = s.tgtHeight := by
  unfold accept; split <;> rfl

@[simp] theorem accept_motion (c : Nat) (s : State) :
    (accept c s).motion = s.motion := by
  unfold accept; split <;> rfl

@[simp] theorem accept_mode (c : Nat) (s : State) :
    (accept c s).mode = s.mode := by
  unfold accept; split <;> rfl

@[simp] theorem accept_relayUp (c : Nat) (s : State) :
    (accept c s).relayUp = s.relayUp := by
  unfold accept; split <;> rfl

@[simp] theorem accept_relayDown (c : Nat) (s : State) :
    (accept c s).relayDown = s.relayDown := by
  unfold accept; split <;> rfl

@[simp] theorem accept_lastPub (c : Nat) (s : State) :
    (accept c s).lastPub = s.lastPub := by
  unfold accept; split <;> rfl

@[simp] theorem accept_pubTimer (c : Nat) (s : State) :
    (accept c s).pubTimer = s.pubTimer := by
  unfold accept; split <;> rfl

@[simp] theorem accept_rst (c : Nat) (s : State) :
    (accept c s).rst = s.rst := by
  unfold accept; split <;> rfl

@[simp] theorem accept_piw (c : Nat) (s : State) :
    (accept c s).piw = s.piw := by
  unfold accept; split <;> rfl

@[simp] theorem accept_pow (c : Nat) (s : State) :
    (accept c s).pow = s.pow := by
  unfold accept; split <;> rfl

@[simp] theorem accept_stimulus (c : Nat) (s : State) :
    (accept c s).stimulus = s.stimulus := by
  unfold accept; split <;> rfl

@[simp] theorem accept_obs_edge (c : Nat) (s : State) :
    (accept c s).obs.edge = s.obs.edge := by
  unfold accept; split <;> rfl

@[simp] theorem accept_obs_fired (c : Nat) (s : State) :
    (accept c s).obs.fired = s.obs.fired := by
  unfold accept; split <;> rfl

@[simp] theorem accept_obs_bit (c : Nat) (s : State) :
    (accept c s).obs.bit = s.obs.bit := by
  unfold accept; split <;> rfl

@[simp] theorem accept_obs_matchCount (c : Nat) (s : State) :
    (accept c s).obs.matchCount = s.obs.matchCount := by
  unfold accept; split <;> rfl

@[simp] theorem accept_obs_raw (c : Nat) (s : State) :
    (accept c s).obs.raw = s.obs.raw := by
  unfold accept; split <;> rfl

@[simp] theorem accept_obs_candidate (c : Nat) (s : State) :
    (accept c s).obs.candidate = s.obs.candidate := by
  unfold accept; split <;> rfl

@[simp] theorem accept_obs_commandReason (c : Nat) (s : State) :
    (accept c s).obs.commandReason = s.obs.commandReason := by
  unfold accept; split <;> rfl

@[simp] theorem accept_obs_events (c : Nat) (s : State) :
    (accept c s).obs.events = s.obs.events := by
  unfold accept; split <;> rfl

@[simp] theorem accept_obs_pubStrobe (c : Nat) (s : State) :
    (accept c s).obs.pubStrobe = s.obs.pubStrobe := by
  unfold accept; split <;> rfl

@[simp] theorem accept_obs_pubValue (c : Nat) (s : State) :
    (accept c s).obs.pubValue = s.obs.pubValue := by
  unfold accept; split <;> rfl

/-! ## decodeBit -/

@[simp] theorem decodeBit_linePrev (P : Params) (bit : Bit) (s : State) :
    (decodeBit P bit s).linePrev = s.linePrev := by
  unfold decodeBit; dsimp only; split <;> simp

@[simp] theorem decodeBit_phase (P : Params) (bit : Bit) (s : State) :
    (decodeBit P bit s).phase = s.phase := by
  unfold decodeBit; dsimp only; split <;> simp

@[simp] theorem decodeBit_tgtHeight (P : Params) (bit : Bit) (s : State) :
    (decodeBit P bit s).tgtHeight = s.tgtHeight := by
  unfold decodeBit; dsimp only; split <;> simp

@[simp] theorem decodeBit_motion (P : Params) (bit : Bit) (s : State) :
    (decodeBit P bit s).motion = s.motion := by
  unfold decodeBit; dsimp only; split <;> simp

@[simp] theorem decodeBit_mode (P : Params) (bit : Bit) (s : State) :
    (decodeBit P bit s).mode = s.mode := by
  unfold decodeBit; dsimp only; split <;> simp

@[simp] theorem decodeBit_relayUp (P : Params) (bit : Bit) (s : State) :
    (decodeBit P bit s).relayUp = s.relayUp := by
  unfold decodeBit; dsimp only; split <;> simp

@[simp] theorem decodeBit_relayDown (P : Params) (bit : Bit) (s : State) :
    (decodeBit P bit s).relayDown = s.relayDown := by
  unfold decodeBit; dsimp only; split <;> simp

@[simp] theorem decodeBit_lastPub (P : Params) (bit : Bit) (s : State) :
    (decodeBit P bit s).lastPub = s.lastPub := by
  unfold decodeBit; dsimp only; split <;> simp

@[simp] theorem decodeBit_pubTimer (P : Params) (bit : Bit) (s : State) :
    (decodeBit P bit s).pubTimer = s.pubTimer := by
  unfold decodeBit; dsimp only; split <;> simp

@[simp] theorem decodeBit_rst (P : Params) (bit : Bit) (s : State) :
    (decodeBit P bit s).rst = s.rst := by
  unfold decodeBit; dsimp only; split <;> simp

@[simp] theorem decodeBit_piw (P : Params) (bit : Bit) (s : State) :
    (decodeBit P bit s).piw = s.piw := by
  unfold decodeBit; dsimp only; split <;> simp

@[simp] theorem decodeBit_pow (P : Params) (bit : Bit) (s : State) :
    (decodeBit P bit s).pow = s.pow := by
  unfold decodeBit; dsimp only; split <;> simp

@[simp] theorem decodeBit_stimulus (P : Params) (bit : Bit) (s : State) :
    (decodeBit P bit s).stimulus = s.stimulus := by
  unfold decodeBit; dsimp only; split <;> simp

@[simp] theorem decodeBit_obs_edge (P : Params) (bit : Bit) (s : State) :
    (decodeBit P bit s).obs.edge = s.obs.edge := by
  unfold decodeBit; dsimp only; split <;> simp

@[simp] theorem decodeBit_obs_fired (P : Params) (bit : Bit) (s : State) :
    (decodeBit P bit s).obs.fired = s.obs.fired := by
  unfold decodeBit; dsimp only; split <;> simp

@[simp] theorem decodeBit_obs_bit (P : Params) (bit : Bit) (s : State) :
    (decodeBit P bit s).obs.bit = s.obs.bit := by
  unfold decodeBit; dsimp only; split <;> simp

@[simp] theorem decodeBit_obs_commandReason (P : Params) (bit : Bit) (s : State) :
    (decodeBit P bit s).obs.commandReason = s.obs.commandReason := by
  unfold decodeBit; dsimp only; split <;> simp

@[simp] theorem decodeBit_obs_events (P : Params) (bit : Bit) (s : State) :
    (decodeBit P bit s).obs.events = s.obs.events := by
  unfold decodeBit; dsimp only; split <;> simp

@[simp] theorem decodeBit_obs_pubStrobe (P : Params) (bit : Bit) (s : State) :
    (decodeBit P bit s).obs.pubStrobe = s.obs.pubStrobe := by
  unfold decodeBit; dsimp only; split <;> simp

@[simp] theorem decodeBit_obs_pubValue (P : Params) (bit : Bit) (s : State) :
    (decodeBit P bit s).obs.pubValue = s.obs.pubValue := by
  unfold decodeBit; dsimp only; split <;> simp

/-! ## setTarget -/

@[simp] theorem setTarget_linePrev (P : Params) (n : Int) (s : State) :
    (setTarget P n s).linePrev = s.linePrev := by
  unfold setTarget; split <;> simp

@[simp] theorem setTarget_phase (P : Params) (n : Int) (s : State) :
    (setTarget P n s).phase = s.phase := by
  unfold setTarget; split <;> simp

@[simp] theorem setTarget_window (P : Params) (n : Int) (s : State) :
    (setTarget P n s).window = s.window := by
  unfold setTarget; split <;> simp

@[simp] theorem setTarget_curHeight (P : Params) (n : Int) (s : State) :
    (setTarget P n s).curHeight = s.curHeight := by
  unfold setTarget; split <;> simp

@[simp] theorem setTarget_mode (P : Params) (n : Int) (s : State) :
    (setTarget P n s).mode = s.mode := by
  unfold setTarget; split <;> simp

@[simp] theorem setTarget_lastPub (P : Params) (n : Int) (s : State) :
    (setTarget P n s).lastPub = s.lastPub := by
  unfold setTarget; split <;> simp

@[simp] theorem setTarget_pubTimer (P : Params) (n : Int) (s : State) :
    (setTarget P n s).pubTimer = s.pubTimer := by
  unfold setTarget; split <;> simp

@[simp] theorem setTarget_rst (P : Params) (n : Int) (s : State) :
    (setTarget P n s).rst = s.rst := by
  unfold setTarget; split <;> simp

@[simp] theorem setTarget_piw (P : Params) (n : Int) (s : State) :
    (setTarget P n s).piw = s.piw := by
  unfold setTarget; split <;> simp

@[simp] theorem setTarget_pow (P : Params) (n : Int) (s : State) :
    (setTarget P n s).pow = s.pow := by
  unfold setTarget; split <;> simp

@[simp] theorem setTarget_stimulus (P : Params) (n : Int) (s : State) :
    (setTarget P n s).stimulus = s.stimulus := by
  unfold setTarget; split <;> simp

@[simp] theorem setTarget_obs_edge (P : Params) (n : Int) (s : State) :
    (setTarget P n s).obs.edge = s.obs.edge := by
  unfold setTarget; split <;> simp

@[simp] theorem setTarget_obs_fired (P : Params) (n : Int) (s : State) :
    (setTarget P n s).obs.fired = s.obs.fired := by
  unfold setTarget; split <;> simp

@[simp] theorem setTarget_obs_bit (P : Params) (n : Int) (s : State) :
    (setTarget P n s).obs.bit = s.obs.bit := by
  unfold setTarget; split <;> simp

@[simp] theorem setTarget_obs_matchCount (P : Params) (n : Int) (s : State) :
    (setTarget P n s).obs.matchCount = s.obs.matchCount := by
  unfold setTarget; split <;> simp

@[simp] theorem setTarget_obs_raw (P : Params) (n : Int) (s : State) :
    (setTarget P n s).obs.raw = s.obs.raw := by
  unfold setTarget; split <;> simp

@[simp] theorem setTarget_obs_candidate (P : Params) (n : Int) (s : State) :
    (setTarget P n s).obs.candidate = s.obs.candidate := by
  unfold setTarget; split <;> simp

@[simp] theorem setTarget_obs_accepted (P : Params) (n : Int) (s : State) :
    (setTarget P n s).obs.accepted = s.obs.accepted := by
  unfold setTarget; split <;> simp

@[simp] theorem setTarget_obs_acceptReason (P : Params) (n : Int) (s : State) :
    (setTarget P n s).obs.acceptReason = s.obs.acceptReason := by
  unfold setTarget; split <;> simp

@[simp] theorem setTarget_obs_pubStrobe (P : Params) (n : Int) (s : State) :
    (setTarget P n s).obs.pubStrobe = s.obs.pubStrobe := by
  unfold setTarget; split <;> simp

@[simp] theorem setTarget_obs_pubValue (P : Params) (n : Int) (s : State) :
    (setTarget P n s).obs.pubValue = s.obs.pubValue := by
  unfold setTarget; split <;> simp

/-! ## ctlTick -/

@[simp] theorem ctlTick_linePrev (s : State) :
    (ctlTick s).linePrev = s.linePrev := by
  unfold ctlTick; split <;> simp

@[simp] theorem ctlTick_phase (s : State) :
    (ctlTick s).phase = s.phase := by
  unfold ctlTick; split <;> simp

@[simp] theorem ctlTick_window (s : State) :
    (ctlTick s).window = s.window := by
  unfold ctlTick; split <;> simp

@[simp] theorem ctlTick_curHeight (s : State) :
    (ctlTick s).curHeight = s.curHeight := by
  unfold ctlTick; split <;> simp

@[simp] theorem ctlTick_mode (s : State) :
    (ctlTick s).mode = s.mode := by
  unfold ctlTick; split <;> simp

@[simp] theorem ctlTick_lastPub (s : State) :
    (ctlTick s).lastPub = s.lastPub := by
  unfold ctlTick; split <;> simp

@[simp] theorem ctlTick_pubTimer (s : State) :
    (ctlTick s).pubTimer = s.pubTimer := by
  unfold ctlTick; split <;> simp

@[simp] theorem ctlTick_rst (s : State) :
    (ctlTick s).rst = s.rst := by
  unfold ctlTick; split <;> simp

@[simp] theorem ctlTick_piw (s : State) :
    (ctlTick s).piw = s.piw := by
  unfold ctlTick; split <;> simp

@[simp] theorem ctlTick_pow (s : State) :
    (ctlTick s).pow = s.pow := by
  unfold ctlTick; split <;> simp

@[simp] theorem ctlTick_stimulus (s : State) :
    (ctlTick s).stimulus = s.stimulus := by
  unfold ctlTick; split <;> simp

@[simp] theorem ctlTick_obs_edge (s : State) :
    (ctlTick s).obs.edge = s.obs.edge := by
  unfold ctlTick; split <;> simp

@[simp] theorem ctlTick_obs_fired (s : State) :
    (ctlTick s).obs.fired = s.obs.fired := by
  unfold ctlTick; split <;> simp

@[simp] theorem ctlTick_obs_bit (s : State) :
    (ctlTick s).obs.bit = s.obs.bit := by
  unfold ctlTick; split <;> simp

@[simp] theorem ctlTick_obs_matchCount (s : State) :
    (ctlTick s).obs.matchCount = s.obs.matchCount := by
  unfold ctlTick; split <;> simp

@[simp] theorem ctlTick_obs_raw (s : State) :
    (ctlTick s).obs.raw = s.obs.raw := by
  unfold ctlTick; split <;> simp

@[simp] theorem ctlTick_obs_candidate (s : State) :
    (ctlTick s).obs.candidate = s.obs.candidate := by
  unfold ctlTick; split <;> simp

@[simp] theorem ctlTick_obs_accepted (s : State) :
    (ctlTick s).obs.accepted = s.obs.accepted := by
  unfold ctlTick; split <;> simp

@[simp] theorem ctlTick_obs_acceptReason (s : State) :
    (ctlTick s).obs.acceptReason = s.obs.acceptReason := by
  unfold ctlTick; split <;> simp

@[simp] theorem ctlTick_obs_commandReason (s : State) :
    (ctlTick s).obs.commandReason = s.obs.commandReason := by
  unfold ctlTick; split <;> simp

@[simp] theorem ctlTick_obs_pubStrobe (s : State) :
    (ctlTick s).obs.pubStrobe = s.obs.pubStrobe := by
  unfold ctlTick; split <;> simp

@[simp] theorem ctlTick_obs_pubValue (s : State) :
    (ctlTick s).obs.pubValue = s.obs.pubValue := by
  unfold ctlTick; split <;> simp

/-! ## enter -/

@[simp] theorem enter_linePrev (d : Direction) (s : State) :
    (enter d s).linePrev = s.linePrev := by
  cases d <;> simp [enter]

@[simp] theorem enter_phase (d : Direction) (s : State) :
    (enter d s).phase = s.phase := by
  cases d <;> simp [enter]

@[simp] theorem enter_window (d : Direction) (s : State) :
    (enter d s).window = s.window := by
  cases d <;> simp [enter]

@[simp] theorem enter_curHeight (d : Direction) (s : State) :
    (enter d s).curHeight = s.curHeight := by
  cases d <;> simp [enter]

@[simp] theorem enter_tgtHeight (d : Direction) (s : State) :
    (enter d s).tgtHeight = s.tgtHeight := by
  cases d <;> simp [enter]

@[simp] theorem enter_mode (d : Direction) (s : State) :
    (enter d s).mode = s.mode := by
  cases d <;> simp [enter]

@[simp] theorem enter_lastPub (d : Direction) (s : State) :
    (enter d s).lastPub = s.lastPub := by
  cases d <;> simp [enter]

@[simp] theorem enter_pubTimer (d : Direction) (s : State) :
    (enter d s).pubTimer = s.pubTimer := by
  cases d <;> simp [enter]

@[simp] theorem enter_rst (d : Direction) (s : State) :
    (enter d s).rst = s.rst := by
  cases d <;> simp [enter]

@[simp] theorem enter_piw (d : Direction) (s : State) :
    (enter d s).piw = s.piw := by
  cases d <;> simp [enter]

@[simp] theorem enter_pow (d : Direction) (s : State) :
    (enter d s).pow = s.pow := by
  cases d <;> simp [enter]

@[simp] theorem enter_stimulus (d : Direction) (s : State) :
    (enter d s).stimulus = s.stimulus := by
  cases d <;> simp [enter]

@[simp] theorem enter_obs_edge (d : Direction) (s : State) :
    (enter d s).obs.edge = s.obs.edge := by
  cases d <;> simp [enter]

@[simp] theorem enter_obs_fired (d : Direction) (s : State) :
    (enter d s).obs.fired = s.obs.fired := by
  cases d <;> simp [enter]

@[simp] theorem enter_obs_bit (d : Direction) (s : State) :
    (enter d s).obs.bit = s.obs.bit := by
  cases d <;> simp [enter]

@[simp] theorem enter_obs_matchCount (d : Direction) (s : State) :
    (enter d s).obs.matchCount = s.obs.matchCount := by
  cases d <;> simp [enter]

@[simp] theorem enter_obs_raw (d : Direction) (s : State) :
    (enter d s).obs.raw = s.obs.raw := by
  cases d <;> simp [enter]

@[simp] theorem enter_obs_candidate (d : Direction) (s : State) :
    (enter d s).obs.candidate = s.obs.candidate := by
  cases d <;> simp [enter]

@[simp] theorem enter_obs_accepted (d : Direction) (s : State) :
    (enter d s).obs.accepted = s.obs.accepted := by
  cases d <;> simp [enter]

@[simp] theorem enter_obs_acceptReason (d : Direction) (s : State) :
    (enter d s).obs.acceptReason = s.obs.acceptReason := by
  cases d <;> simp [enter]

@[simp] theorem enter_obs_commandReason (d : Direction) (s : State) :
    (enter d s).obs.commandReason = s.obs.commandReason := by
  cases d <;> simp [enter]

@[simp] theorem enter_obs_pubStrobe (d : Direction) (s : State) :
    (enter d s).obs.pubStrobe = s.obs.pubStrobe := by
  cases d <;> simp [enter]

@[simp] theorem enter_obs_pubValue (d : Direction) (s : State) :
    (enter d s).obs.pubValue = s.obs.pubValue := by
  cases d <;> simp [enter]

/-! ## switchInput -/

@[simp] theorem switchInput_linePrev (upN downN : Bit) (s : State) :
    (switchInput upN downN s).linePrev = s.linePrev := by
  unfold switchInput switchDirection active
  cases h : s.mode <;> cases upN <;> cases downN <;> simp [enter]

@[simp] theorem switchInput_phase (upN downN : Bit) (s : State) :
    (switchInput upN downN s).phase = s.phase := by
  unfold switchInput switchDirection active
  cases h : s.mode <;> cases upN <;> cases downN <;> simp [enter]

@[simp] theorem switchInput_window (upN downN : Bit) (s : State) :
    (switchInput upN downN s).window = s.window := by
  unfold switchInput switchDirection active
  cases h : s.mode <;> cases upN <;> cases downN <;> simp [enter]

@[simp] theorem switchInput_curHeight (upN downN : Bit) (s : State) :
    (switchInput upN downN s).curHeight = s.curHeight := by
  unfold switchInput switchDirection active
  cases h : s.mode <;> cases upN <;> cases downN <;> simp [enter]

@[simp] theorem switchInput_lastPub (upN downN : Bit) (s : State) :
    (switchInput upN downN s).lastPub = s.lastPub := by
  unfold switchInput switchDirection active
  cases h : s.mode <;> cases upN <;> cases downN <;> simp [enter]

@[simp] theorem switchInput_pubTimer (upN downN : Bit) (s : State) :
    (switchInput upN downN s).pubTimer = s.pubTimer := by
  unfold switchInput switchDirection active
  cases h : s.mode <;> cases upN <;> cases downN <;> simp [enter]

@[simp] theorem switchInput_rst (upN downN : Bit) (s : State) :
    (switchInput upN downN s).rst = s.rst := by
  unfold switchInput switchDirection active
  cases h : s.mode <;> cases upN <;> cases downN <;> simp [enter]

@[simp] theorem switchInput_piw (upN downN : Bit) (s : State) :
    (switchInput upN downN s).piw = s.piw := by
  unfold switchInput switchDirection active
  cases h : s.mode <;> cases upN <;> cases downN <;> simp [enter]

@[simp] theorem switchInput_pow (upN downN : Bit) (s : State) :
    (switchInput upN downN s).pow = s.pow := by
  unfold switchInput switchDirection active
  cases h : s.mode <;> cases upN <;> cases downN <;> simp [enter]

@[simp] theorem switchInput_stimulus (upN downN : Bit) (s : State) :
    (switchInput upN downN s).stimulus = s.stimulus := by
  unfold switchInput switchDirection active
  cases h : s.mode <;> cases upN <;> cases downN <;> simp [enter]

@[simp] theorem switchInput_obs_edge (upN downN : Bit) (s : State) :
    (switchInput upN downN s).obs.edge = s.obs.edge := by
  unfold switchInput switchDirection active
  cases h : s.mode <;> cases upN <;> cases downN <;> simp [enter]

@[simp] theorem switchInput_obs_fired (upN downN : Bit) (s : State) :
    (switchInput upN downN s).obs.fired = s.obs.fired := by
  unfold switchInput switchDirection active
  cases h : s.mode <;> cases upN <;> cases downN <;> simp [enter]

@[simp] theorem switchInput_obs_bit (upN downN : Bit) (s : State) :
    (switchInput upN downN s).obs.bit = s.obs.bit := by
  unfold switchInput switchDirection active
  cases h : s.mode <;> cases upN <;> cases downN <;> simp [enter]

@[simp] theorem switchInput_obs_matchCount (upN downN : Bit) (s : State) :
    (switchInput upN downN s).obs.matchCount = s.obs.matchCount := by
  unfold switchInput switchDirection active
  cases h : s.mode <;> cases upN <;> cases downN <;> simp [enter]

@[simp] theorem switchInput_obs_raw (upN downN : Bit) (s : State) :
    (switchInput upN downN s).obs.raw = s.obs.raw := by
  unfold switchInput switchDirection active
  cases h : s.mode <;> cases upN <;> cases downN <;> simp [enter]

@[simp] theorem switchInput_obs_candidate (upN downN : Bit) (s : State) :
    (switchInput upN downN s).obs.candidate = s.obs.candidate := by
  unfold switchInput switchDirection active
  cases h : s.mode <;> cases upN <;> cases downN <;> simp [enter]

@[simp] theorem switchInput_obs_accepted (upN downN : Bit) (s : State) :
    (switchInput upN downN s).obs.accepted = s.obs.accepted := by
  unfold switchInput switchDirection active
  cases h : s.mode <;> cases upN <;> cases downN <;> simp [enter]

@[simp] theorem switchInput_obs_acceptReason (upN downN : Bit) (s : State) :
    (switchInput upN downN s).obs.acceptReason = s.obs.acceptReason := by
  unfold switchInput switchDirection active
  cases h : s.mode <;> cases upN <;> cases downN <;> simp [enter]

@[simp] theorem switchInput_obs_commandReason (upN downN : Bit) (s : State) :
    (switchInput upN downN s).obs.commandReason = s.obs.commandReason := by
  unfold switchInput switchDirection active
  cases h : s.mode <;> cases upN <;> cases downN <;> simp [enter]

@[simp] theorem switchInput_obs_pubStrobe (upN downN : Bit) (s : State) :
    (switchInput upN downN s).obs.pubStrobe = s.obs.pubStrobe := by
  unfold switchInput switchDirection active
  cases h : s.mode <;> cases upN <;> cases downN <;> simp [enter]

@[simp] theorem switchInput_obs_pubValue (upN downN : Bit) (s : State) :
    (switchInput upN downN s).obs.pubValue = s.obs.pubValue := by
  unfold switchInput switchDirection active
  cases h : s.mode <;> cases upN <;> cases downN <;> simp [enter]

end Sys2Proof.Machine
end

