-- ==== Sys2Proof/Laws/Ops.lean ====
section
/-! SUPPORT. One spec lemma for each shared operation: everything it can do, so that a proof cites
the lemma and does not unfold the operation. -/

namespace Sys2Proof.Machine

/-! ## The matcher (R121, R122) -/

/-- The loop of R121 stops at the first disagreement, or at its last position. -/
theorem matchFrom_spec (p : SyncPattern) (w : Window) (n k : Nat) :
    k ≤ matchFrom p w n k ∧ matchFrom p w n k ≤ k + n ∧
      (∀ j, k ≤ j → j < matchFrom p w n k → cell w j = p.getLsbD j) ∧
      (matchFrom p w n k < k + n →
        cell w (matchFrom p w n k) ≠ p.getLsbD (matchFrom p w n k)) := by
  induction n generalizing k with
  | zero => simp only [matchFrom]; refine ⟨le_refl _, le_refl _, ?_, ?_⟩ <;> intros <;> omega
  | succ n ih =>
    by_cases h : cell w k = p.getLsbD k
    · obtain ⟨h1, h2, h3, h4⟩ := ih (k + 1)
      simp only [matchFrom, h, if_true]
      refine ⟨by omega, by omega, fun j hj hlt => ?_, fun hlt => h4 (by omega)⟩
      rcases Nat.eq_or_lt_of_le hj with rfl | hj
      · exact h
      · exact h3 j hj hlt
    · simp only [matchFrom, h, if_false]
      refine ⟨le_refl _, by omega, fun j hj hlt => by omega, fun _ => ?_⟩
      exact h

/-- `matchCount` is the number of leading cells that agree with the pattern (R121). -/
theorem matchCount_spec (p : SyncPattern) (w : Window) :
    matchCount p w ≤ 23 ∧ (∀ j, j < matchCount p w → w.getLsbD j = p.getLsbD j) ∧
      (matchCount p w < 23 → w.getLsbD (matchCount p w) ≠ p.getLsbD (matchCount p w)) := by
  obtain ⟨-, h2, h3, h4⟩ := matchFrom_spec p w 23 0
  exact ⟨by simpa [matchCount] using h2, fun j hj => h3 j (Nat.zero_le _) hj,
    fun h => h4 (by simpa [matchCount] using h)⟩

/-- A full match is agreement of cells 0 to 22 with the pattern (R122). -/
theorem fullMatch_iff (p : SyncPattern) (w : Window) :
    fullMatch p w = true ↔ ∀ j, j < 23 → w.getLsbD j = p.getLsbD j := by
  obtain ⟨hle, hall, hne⟩ := matchCount_spec p w
  simp only [fullMatch, Config.patternLen_eq, beq_iff_eq]
  constructor
  · intro h j hj
    exact hall j (by omega)
  · intro h
    by_contra hlt
    have hlt : matchCount p w < 23 := by omega
    exact hne hlt (h _ hlt)

/-- The count is 23 exactly on a full match. -/
theorem matchCount_eq_iff (p : SyncPattern) (w : Window) :
    matchCount p w = 23 ↔ fullMatch p w = true := by
  simp [fullMatch]

/-! ## The field (R123) -/

/-- The field's number, cell by cell (R72). -/
theorem rawField_toNat (w : Window) :
    (rawField w).toNat = (w.getLsbD 23).toNat + 2 * (w.getLsbD 24).toNat
      + 4 * (w.getLsbD 25).toNat + 8 * (w.getLsbD 26).toNat + 16 * (w.getLsbD 27).toNat
      + 32 * (w.getLsbD 28).toNat + 64 * (w.getLsbD 29).toNat + 128 * (w.getLsbD 30).toNat := by
  have h (i : Nat) : (w.getLsbD i).toNat ≤ 1 := Bool.toNat_le _
  have e : lsbFirst (memRead w 23 8) = (w.getLsbD 23).toNat + 2 * ((w.getLsbD 24).toNat
      + 2 * ((w.getLsbD 25).toNat + 2 * ((w.getLsbD 26).toNat + 2 * ((w.getLsbD 27).toNat
      + 2 * ((w.getLsbD 28).toNat + 2 * ((w.getLsbD 29).toNat
      + 2 * ((w.getLsbD 30).toNat + 2 * 0))))))) := rfl
  have h23 := h 23; have h24 := h 24; have h25 := h 25; have h26 := h 26
  have h27 := h 27; have h28 := h 28; have h29 := h 29; have h30 := h 30
  rw [rawField, Config.fieldOffset_eq, Config.fieldLen_eq, e, BitVec.toNat_ofNat]
  omega

/-! ## ACCEPT (R140) -/

/-- ACCEPT either writes the candidate, which is then plausible, or drops it and only the record
says so. -/
theorem accept_cases (c : Nat) (s : State) :
    (60 ≤ c ∧ c ≤ 120 ∧ (s.curHeight.toNat = 0 ∨ ((s.curHeight.toNat : Int) - c).natAbs < 5) ∧
      accept c s = { s with
        curHeight := BitVec.ofNat 8 c
        obs := { s.obs with accepted := some true, acceptReason := none } }) ∨
    ((c < 60 ∨ 120 < c) ∧
      accept c s = { s with
        obs := { s.obs with accepted := some false, acceptReason := some .outOfRange } }) ∨
    (60 ≤ c ∧ c ≤ 120 ∧ s.curHeight.toNat ≠ 0 ∧ 5 ≤ ((s.curHeight.toNat : Int) - c).natAbs ∧
      accept c s = { s with
        obs := { s.obs with accepted := some false, acceptReason := some .deltaTooLarge } }) := by
  unfold accept filterDrop
  simp only [Config.hMin_eq, Config.hMax_eq, Config.heightUnknown_eq, Config.maxDelta_eq]
  by_cases h1 : c < 60 ∨ c > 120
  · exact .inr (.inl ⟨h1, by simp [h1]⟩)
  · by_cases h2 : s.curHeight.toNat = 0
    · exact .inl ⟨by omega, by omega, .inl h2, by simp [h1, h2]⟩
    · by_cases h3 : ((s.curHeight.toNat : Int) - c).natAbs < 5
      · exact .inl ⟨by omega, by omega, .inr h3, by simp [h1, h2, h3]⟩
      · exact .inr (.inr ⟨by omega, by omega, h2, by omega, by simp [h1, h2, h3]⟩)

/-! ## SETTARGET, CTLTICK, SWITCH (R154 to R156) -/

/-- SETTARGET takes exactly one of the four arms of R154. -/
theorem setTarget_cases (P : Params) (n : Int) (s : State) :
    (s.mode = .manualOverride ∧ setTarget P n s = noteCommand .rejectedInManual s) ∨
    (s.mode = .auto ∧ s.cur < n ∧ n < P.maxHeight ∧
      setTarget P n s = enterUp (startToward n s)) ∨
    (s.mode = .auto ∧ s.cur > n ∧ setTarget P n s = enterDown (startToward n s)) ∨
    (s.mode = .auto ∧ (s.cur = n ∨ (s.cur < n ∧ P.maxHeight ≤ n)) ∧
      setTarget P n s = stop (noteCommand .invalidTarget s)) := by
  unfold setTarget commandArm
  cases hm : s.mode
  · by_cases h1 : s.cur < n ∧ n < P.maxHeight
    · exact .inr (.inl ⟨rfl, h1.1, h1.2, by simp [h1]⟩)
    · by_cases h2 : s.cur > n
      · exact .inr (.inr (.inl ⟨rfl, h2, by simp [h1, h2]⟩))
      · exact .inr (.inr (.inr ⟨rfl, by omega, by simp [h1, h2]⟩))
  · exact .inl ⟨rfl, by simp⟩

/-- CTLTICK stops an automatic motion whose target is within the offset, and does nothing else. -/
theorem ctlTick_cases (s : State) :
    (s.mode = .auto ∧ s.motion = .movingUp ∧ s.cur + 1 ≥ s.tgt ∧ ctlTick s = stop s) ∨
    (s.mode = .auto ∧ s.motion = .movingDown ∧ s.cur - 2 ≤ s.tgt ∧ ctlTick s = stop s) ∨
    (¬(s.mode = .auto ∧ s.motion = .movingUp ∧ s.cur + 1 ≥ s.tgt) ∧
      ¬(s.mode = .auto ∧ s.motion = .movingDown ∧ s.cur - 2 ≤ s.tgt) ∧ ctlTick s = s) := by
  unfold ctlTick targetReached
  cases hm : s.mode <;> cases hv : s.motion
  · exact .inr (.inr (by simp))
  · by_cases h : s.cur + 1 ≥ s.tgt
    · exact .inl (by simp [h])
    · exact .inr (.inr (by simp [h]))
  · by_cases h : s.cur - 2 ≤ s.tgt
    · exact .inr (.inl (by simp [h]))
    · exact .inr (.inr (by simp [h]))
  all_goals exact .inr (.inr (by simp))

/-- SWITCH releases the override when both switches read 1, enters it from Auto when one reads 0, and
does nothing else. -/
theorem switchInput_cases (upN downN : Bit) (s : State) :
    (s.mode = .manualOverride ∧ upN = true ∧ downN = true ∧
      switchInput upN downN s = { stop s with mode := .auto }) ∨
    (s.mode = .auto ∧ upN = false ∧
      switchInput upN downN s = enterUp { s with mode := .manualOverride }) ∨
    (s.mode = .auto ∧ upN = true ∧ downN = false ∧
      switchInput upN downN s = enterDown { s with mode := .manualOverride }) ∨
    (((s.mode = .manualOverride ∧ ¬(upN = true ∧ downN = true)) ∨
        (s.mode = .auto ∧ upN = true ∧ downN = true)) ∧ switchInput upN downN s = s) := by
  unfold switchInput
  cases hm : s.mode <;> cases upN <;> cases downN <;> simp [switchDirection, active, enter]

/-! ## DECODE (R125) -/

/-- DECODE pushes the bit and counts the match; on a full match it hands the candidate to ACCEPT. -/
theorem decodeBit_cases (P : Params) (bit : Bit) (s : State) :
    (fullMatch P.syncPattern (shiftIn bit s.window) = true ∧
      decodeBit P bit s = accept (candidateOf (rawField (shiftIn bit s.window))).toNat
        (extract (checkMatch P (pushBit bit s)))) ∨
    (fullMatch P.syncPattern (shiftIn bit s.window) = false ∧
      decodeBit P bit s = checkMatch P (pushBit bit s)) := by
  unfold decodeBit
  dsimp only
  cases h : fullMatch P.syncPattern (shiftIn bit s.window)
  · exact .inr ⟨rfl, by simp [h]⟩
  · exact .inl ⟨rfl, by simp [h]⟩

@[simp] theorem decodeBit_window (P : Params) (bit : Bit) (s : State) :
    (decodeBit P bit s).window = shiftIn bit s.window := by
  rcases decodeBit_cases P bit s with ⟨-, h⟩ | ⟨-, h⟩ <;> simp [h]

/-! ## The stages of a pass (R180) -/

/-- Steps 1 and 2: the level is remembered and the phase has its one update of R104. -/
theorem samplerStage_eq (line : Bit) (s : State) :
    samplerStage line s = { s with
      linePrev := line
      phase := if line != s.linePrev then 500#10 else nextPhase s.phase
      obs := { s.obs with
        edge := line != s.linePrev
        fired := firedFlag (line != s.linePrev) s.phase } } := by
  unfold samplerStage detectEdge edgeFlag
  cases h : line != s.linePrev <;> simp [tick, takeEdge, firedFlag]

/-- The phase count never leaves its range (R22). -/
theorem nextPhase_le (phase : BitVec 10) : (nextPhase phase).toNat ≤ 999 := by
  unfold nextPhase
  have h := phase.isLt
  simp only [Config.cyclePasses_eq]
  split
  · simp
  · rw [BitVec.toNat_add]
    simp only [BitVec.toNat_ofNat]
    omega

/-- The phase count, as a number (R104). -/
theorem nextPhase_toNat (phase : BitVec 10) :
    (nextPhase phase).toNat = if 1000 ≤ phase.toNat + 1 then 0 else phase.toNat + 1 := by
  unfold nextPhase
  have h := phase.isLt
  simp only [Config.cyclePasses_eq]
  split
  · simp
  · rw [BitVec.toNat_add]
    simp only [BitVec.toNat_ofNat]
    omega

theorem firedFlag_eq (edge : Bit) (phase : BitVec 10) :
    firedFlag edge phase = (!edge && decide (1000 ≤ phase.toNat + 1)) := by
  simp [firedFlag]

/-! ## What a step runs -/

/-- Every operation has a next state (R200: every operation is total). -/
theorem exec_next (i : Instr) (s : State) : ∃ t, exec i s = .next t := by
  cases i <;> exact ⟨_, rfl⟩

end Sys2Proof.Machine
end

