-- ==== Sys2Proof/Laws/Pass.lean ====
section
/-! SUPPORT. The stages of a pass (45_pass_sequencer.md R180): what each leaves as it is, field by
field, and the elements a whole pass writes through one stage only. -/

namespace Sys2Proof.Machine

/-! ## decoderStage -/

@[simp] theorem decoderStage_linePrev (P : Params) (line : Bit) (s : State) :
    (decoderStage P line s).linePrev = s.linePrev := by
  unfold decoderStage; split <;> simp

@[simp] theorem decoderStage_phase (P : Params) (line : Bit) (s : State) :
    (decoderStage P line s).phase = s.phase := by
  unfold decoderStage; split <;> simp

@[simp] theorem decoderStage_tgtHeight (P : Params) (line : Bit) (s : State) :
    (decoderStage P line s).tgtHeight = s.tgtHeight := by
  unfold decoderStage; split <;> simp

@[simp] theorem decoderStage_motion (P : Params) (line : Bit) (s : State) :
    (decoderStage P line s).motion = s.motion := by
  unfold decoderStage; split <;> simp

@[simp] theorem decoderStage_mode (P : Params) (line : Bit) (s : State) :
    (decoderStage P line s).mode = s.mode := by
  unfold decoderStage; split <;> simp

@[simp] theorem decoderStage_relayUp (P : Params) (line : Bit) (s : State) :
    (decoderStage P line s).relayUp = s.relayUp := by
  unfold decoderStage; split <;> simp

@[simp] theorem decoderStage_relayDown (P : Params) (line : Bit) (s : State) :
    (decoderStage P line s).relayDown = s.relayDown := by
  unfold decoderStage; split <;> simp

@[simp] theorem decoderStage_lastPub (P : Params) (line : Bit) (s : State) :
    (decoderStage P line s).lastPub = s.lastPub := by
  unfold decoderStage; split <;> simp

@[simp] theorem decoderStage_pubTimer (P : Params) (line : Bit) (s : State) :
    (decoderStage P line s).pubTimer = s.pubTimer := by
  unfold decoderStage; split <;> simp

@[simp] theorem decoderStage_rst (P : Params) (line : Bit) (s : State) :
    (decoderStage P line s).rst = s.rst := by
  unfold decoderStage; split <;> simp

@[simp] theorem decoderStage_piw (P : Params) (line : Bit) (s : State) :
    (decoderStage P line s).piw = s.piw := by
  unfold decoderStage; split <;> simp

@[simp] theorem decoderStage_pow (P : Params) (line : Bit) (s : State) :
    (decoderStage P line s).pow = s.pow := by
  unfold decoderStage; split <;> simp

@[simp] theorem decoderStage_stimulus (P : Params) (line : Bit) (s : State) :
    (decoderStage P line s).stimulus = s.stimulus := by
  unfold decoderStage; split <;> simp

@[simp] theorem decoderStage_obs_edge (P : Params) (line : Bit) (s : State) :
    (decoderStage P line s).obs.edge = s.obs.edge := by
  unfold decoderStage; split <;> simp

@[simp] theorem decoderStage_obs_fired (P : Params) (line : Bit) (s : State) :
    (decoderStage P line s).obs.fired = s.obs.fired := by
  unfold decoderStage; split <;> simp

@[simp] theorem decoderStage_obs_commandReason (P : Params) (line : Bit) (s : State) :
    (decoderStage P line s).obs.commandReason = s.obs.commandReason := by
  unfold decoderStage; split <;> simp

@[simp] theorem decoderStage_obs_events (P : Params) (line : Bit) (s : State) :
    (decoderStage P line s).obs.events = s.obs.events := by
  unfold decoderStage; split <;> simp

@[simp] theorem decoderStage_obs_pubStrobe (P : Params) (line : Bit) (s : State) :
    (decoderStage P line s).obs.pubStrobe = s.obs.pubStrobe := by
  unfold decoderStage; split <;> simp

@[simp] theorem decoderStage_obs_pubValue (P : Params) (line : Bit) (s : State) :
    (decoderStage P line s).obs.pubValue = s.obs.pubValue := by
  unfold decoderStage; split <;> simp

/-! ## commandStage -/

@[simp] theorem commandStage_linePrev (P : Params) (target : BitVec 16) (valid : Bit) (s : State) :
    (commandStage P target valid s).linePrev = s.linePrev := by
  unfold commandStage; split <;> simp

@[simp] theorem commandStage_phase (P : Params) (target : BitVec 16) (valid : Bit) (s : State) :
    (commandStage P target valid s).phase = s.phase := by
  unfold commandStage; split <;> simp

@[simp] theorem commandStage_window (P : Params) (target : BitVec 16) (valid : Bit) (s : State) :
    (commandStage P target valid s).window = s.window := by
  unfold commandStage; split <;> simp

@[simp] theorem commandStage_curHeight (P : Params) (target : BitVec 16) (valid : Bit) (s : State) :
    (commandStage P target valid s).curHeight = s.curHeight := by
  unfold commandStage; split <;> simp

@[simp] theorem commandStage_mode (P : Params) (target : BitVec 16) (valid : Bit) (s : State) :
    (commandStage P target valid s).mode = s.mode := by
  unfold commandStage; split <;> simp

@[simp] theorem commandStage_lastPub (P : Params) (target : BitVec 16) (valid : Bit) (s : State) :
    (commandStage P target valid s).lastPub = s.lastPub := by
  unfold commandStage; split <;> simp

@[simp] theorem commandStage_pubTimer (P : Params) (target : BitVec 16) (valid : Bit) (s : State) :
    (commandStage P target valid s).pubTimer = s.pubTimer := by
  unfold commandStage; split <;> simp

@[simp] theorem commandStage_rst (P : Params) (target : BitVec 16) (valid : Bit) (s : State) :
    (commandStage P target valid s).rst = s.rst := by
  unfold commandStage; split <;> simp

@[simp] theorem commandStage_piw (P : Params) (target : BitVec 16) (valid : Bit) (s : State) :
    (commandStage P target valid s).piw = s.piw := by
  unfold commandStage; split <;> simp

@[simp] theorem commandStage_pow (P : Params) (target : BitVec 16) (valid : Bit) (s : State) :
    (commandStage P target valid s).pow = s.pow := by
  unfold commandStage; split <;> simp

@[simp] theorem commandStage_stimulus (P : Params) (target : BitVec 16) (valid : Bit) (s : State) :
    (commandStage P target valid s).stimulus = s.stimulus := by
  unfold commandStage; split <;> simp

@[simp] theorem commandStage_obs_edge (P : Params) (target : BitVec 16) (valid : Bit) (s : State) :
    (commandStage P target valid s).obs.edge = s.obs.edge := by
  unfold commandStage; split <;> simp

@[simp] theorem commandStage_obs_fired (P : Params) (target : BitVec 16) (valid : Bit) (s : State) :
    (commandStage P target valid s).obs.fired = s.obs.fired := by
  unfold commandStage; split <;> simp

@[simp] theorem commandStage_obs_bit (P : Params) (target : BitVec 16) (valid : Bit) (s : State) :
    (commandStage P target valid s).obs.bit = s.obs.bit := by
  unfold commandStage; split <;> simp

@[simp] theorem commandStage_obs_matchCount (P : Params) (target : BitVec 16) (valid : Bit) (s : State) :
    (commandStage P target valid s).obs.matchCount = s.obs.matchCount := by
  unfold commandStage; split <;> simp

@[simp] theorem commandStage_obs_raw (P : Params) (target : BitVec 16) (valid : Bit) (s : State) :
    (commandStage P target valid s).obs.raw = s.obs.raw := by
  unfold commandStage; split <;> simp

@[simp] theorem commandStage_obs_candidate (P : Params) (target : BitVec 16) (valid : Bit) (s : State) :
    (commandStage P target valid s).obs.candidate = s.obs.candidate := by
  unfold commandStage; split <;> simp

@[simp] theorem commandStage_obs_accepted (P : Params) (target : BitVec 16) (valid : Bit) (s : State) :
    (commandStage P target valid s).obs.accepted = s.obs.accepted := by
  unfold commandStage; split <;> simp

@[simp] theorem commandStage_obs_acceptReason (P : Params) (target : BitVec 16) (valid : Bit) (s : State) :
    (commandStage P target valid s).obs.acceptReason = s.obs.acceptReason := by
  unfold commandStage; split <;> simp

@[simp] theorem commandStage_obs_pubStrobe (P : Params) (target : BitVec 16) (valid : Bit) (s : State) :
    (commandStage P target valid s).obs.pubStrobe = s.obs.pubStrobe := by
  unfold commandStage; split <;> simp

@[simp] theorem commandStage_obs_pubValue (P : Params) (target : BitVec 16) (valid : Bit) (s : State) :
    (commandStage P target valid s).obs.pubValue = s.obs.pubValue := by
  unfold commandStage; split <;> simp

/-! ## controlStage -/

@[simp] theorem controlStage_linePrev (upN downN : Bit) (s : State) :
    (controlStage upN downN s).linePrev = s.linePrev := by
  unfold controlStage; split <;> simp

@[simp] theorem controlStage_phase (upN downN : Bit) (s : State) :
    (controlStage upN downN s).phase = s.phase := by
  unfold controlStage; split <;> simp

@[simp] theorem controlStage_window (upN downN : Bit) (s : State) :
    (controlStage upN downN s).window = s.window := by
  unfold controlStage; split <;> simp

@[simp] theorem controlStage_curHeight (upN downN : Bit) (s : State) :
    (controlStage upN downN s).curHeight = s.curHeight := by
  unfold controlStage; split <;> simp

@[simp] theorem controlStage_lastPub (upN downN : Bit) (s : State) :
    (controlStage upN downN s).lastPub = s.lastPub := by
  unfold controlStage; split <;> simp

@[simp] theorem controlStage_pubTimer (upN downN : Bit) (s : State) :
    (controlStage upN downN s).pubTimer = s.pubTimer := by
  unfold controlStage; split <;> simp

@[simp] theorem controlStage_rst (upN downN : Bit) (s : State) :
    (controlStage upN downN s).rst = s.rst := by
  unfold controlStage; split <;> simp

@[simp] theorem controlStage_piw (upN downN : Bit) (s : State) :
    (controlStage upN downN s).piw = s.piw := by
  unfold controlStage; split <;> simp

@[simp] theorem controlStage_pow (upN downN : Bit) (s : State) :
    (controlStage upN downN s).pow = s.pow := by
  unfold controlStage; split <;> simp

@[simp] theorem controlStage_stimulus (upN downN : Bit) (s : State) :
    (controlStage upN downN s).stimulus = s.stimulus := by
  unfold controlStage; split <;> simp

@[simp] theorem controlStage_obs_edge (upN downN : Bit) (s : State) :
    (controlStage upN downN s).obs.edge = s.obs.edge := by
  unfold controlStage; split <;> simp

@[simp] theorem controlStage_obs_fired (upN downN : Bit) (s : State) :
    (controlStage upN downN s).obs.fired = s.obs.fired := by
  unfold controlStage; split <;> simp

@[simp] theorem controlStage_obs_bit (upN downN : Bit) (s : State) :
    (controlStage upN downN s).obs.bit = s.obs.bit := by
  unfold controlStage; split <;> simp

@[simp] theorem controlStage_obs_matchCount (upN downN : Bit) (s : State) :
    (controlStage upN downN s).obs.matchCount = s.obs.matchCount := by
  unfold controlStage; split <;> simp

@[simp] theorem controlStage_obs_raw (upN downN : Bit) (s : State) :
    (controlStage upN downN s).obs.raw = s.obs.raw := by
  unfold controlStage; split <;> simp

@[simp] theorem controlStage_obs_candidate (upN downN : Bit) (s : State) :
    (controlStage upN downN s).obs.candidate = s.obs.candidate := by
  unfold controlStage; split <;> simp

@[simp] theorem controlStage_obs_accepted (upN downN : Bit) (s : State) :
    (controlStage upN downN s).obs.accepted = s.obs.accepted := by
  unfold controlStage; split <;> simp

@[simp] theorem controlStage_obs_acceptReason (upN downN : Bit) (s : State) :
    (controlStage upN downN s).obs.acceptReason = s.obs.acceptReason := by
  unfold controlStage; split <;> simp

@[simp] theorem controlStage_obs_commandReason (upN downN : Bit) (s : State) :
    (controlStage upN downN s).obs.commandReason = s.obs.commandReason := by
  unfold controlStage; split <;> simp

@[simp] theorem controlStage_obs_pubStrobe (upN downN : Bit) (s : State) :
    (controlStage upN downN s).obs.pubStrobe = s.obs.pubStrobe := by
  unfold controlStage; split <;> simp

@[simp] theorem controlStage_obs_pubValue (upN downN : Bit) (s : State) :
    (controlStage upN downN s).obs.pubValue = s.obs.pubValue := by
  unfold controlStage; split <;> simp

/-! ## runPass -/

@[simp] theorem runPass_linePrev (P : Params) (line dn up : Bit) (target : BitVec 16) (valid : Bit) (s : State) :
    (runPass P line dn up target valid s).linePrev = line := by
  simp [runPass, samplerStage_eq]

@[simp] theorem runPass_phase (P : Params) (line dn up : Bit) (target : BitVec 16) (valid : Bit) (s : State) :
    (runPass P line dn up target valid s).phase
      = if line != s.linePrev then 500#10 else nextPhase s.phase := by
  simp [runPass, samplerStage_eq]

@[simp] theorem runPass_obs_edge (P : Params) (line dn up : Bit) (target : BitVec 16) (valid : Bit) (s : State) :
    (runPass P line dn up target valid s).obs.edge = (line != s.linePrev) := by
  simp [runPass, samplerStage_eq]

@[simp] theorem runPass_obs_fired (P : Params) (line dn up : Bit) (target : BitVec 16) (valid : Bit) (s : State) :
    (runPass P line dn up target valid s).obs.fired
      = firedFlag (line != s.linePrev) s.phase := by
  simp [runPass, samplerStage_eq]

@[simp] theorem runPass_rst (P : Params) (line dn up : Bit) (target : BitVec 16) (valid : Bit) (s : State) :
    (runPass P line dn up target valid s).rst = s.rst := by
  simp [runPass, samplerStage_eq]

@[simp] theorem runPass_piw (P : Params) (line dn up : Bit) (target : BitVec 16) (valid : Bit) (s : State) :
    (runPass P line dn up target valid s).piw = s.piw := by
  simp [runPass, samplerStage_eq]

@[simp] theorem runPass_stimulus (P : Params) (line dn up : Bit) (target : BitVec 16) (valid : Bit) (s : State) :
    (runPass P line dn up target valid s).stimulus = s.stimulus := by
  simp [runPass, samplerStage_eq]

@[simp] theorem runPass_window (P : Params) (line dn up : Bit) (target : BitVec 16) (valid : Bit) (s : State) :
    (runPass P line dn up target valid s).window
      = if firedFlag (line != s.linePrev) s.phase then shiftIn line s.window else s.window := by
  simp only [runPass, driveOutputs_window, publish_window, controlStage_window, commandStage_window,
    samplerStage_eq, decoderStage, clearObs_linePrev, clearObs_phase]
  split <;> simp

@[simp] theorem runPass_pubTimer (P : Params) (line dn up : Bit) (target : BitVec 16) (valid : Bit) (s : State) :
    (runPass P line dn up target valid s).pubTimer
      = if publishDue s.pubTimer then 0#23 else s.pubTimer + 1#23 := by
  simp [runPass, samplerStage_eq]

@[simp] theorem runPass_obs_pubStrobe (P : Params) (line dn up : Bit) (target : BitVec 16) (valid : Bit) (s : State) :
    (runPass P line dn up target valid s).obs.pubStrobe
      = publishes s.pubTimer (runPass P line dn up target valid s).curHeight s.lastPub := by
  simp [runPass, samplerStage_eq]

end Sys2Proof.Machine
end

