-- ==== Sys2Proof/Laws/PerInstr.lean ====
section
/-! SUPPORT. Per-instruction facts about the operations as syntax. -/

namespace Sys2Proof.Laws.CodeKind

/-- The kind of a code word agrees with the table's format of its row: FRAME is on the wire, SETTARGET
is selected by a pin of a port word, PASS and RESET fill a period; and an operation that no `PIW`
bit selects (R76) has no code word. -/
def Statement (i : Sys2Proof.Instr) : Prop :=
  ∀ p : Sys2Proof.SyncPattern,
    match Sys2Proof.encode p i with
    | some (.wire _) => i.format = .wire
    | some (.command _) => i.format = .pin
    | some (.period _ _) => i.format = .seq
    | none => i.format ≠ .wire

theorem frame (raw : BitVec 8) (tail : Bool) : Statement (.frame raw tail) := fun _ => rfl
theorem edge : Statement .edge := fun _ h => nomatch h
theorem tick (e : Bool) : Statement (.tick e) := fun _ h => nomatch h
theorem sample (l : Bool) : Statement (.sample l) := fun _ h => nomatch h
theorem pushbit (b : Bool) : Statement (.pushbit b) := fun _ h => nomatch h
theorem checkmatch : Statement .checkmatch := fun _ h => nomatch h
theorem extract : Statement .extract := fun _ h => nomatch h
theorem accept (c : Nat) : Statement (.accept c) := fun _ h => nomatch h
theorem settarget (n : Int) : Statement (.settarget n) := fun _ => rfl
theorem switch (u d : Bool) : Statement (.switch u d) := fun _ h => nomatch h
theorem ctltick : Statement .ctltick := fun _ h => nomatch h
theorem publish : Statement .publish := fun _ h => nomatch h
theorem enterUp : Statement .enterUp := fun _ h => nomatch h
theorem enterDown : Statement .enterDown := fun _ h => nomatch h
theorem stop : Statement .stop := fun _ h => nomatch h
theorem decode (b : Bool) : Statement (.decode b) := fun _ h => nomatch h
theorem pass (l d u : Bool) (t : BitVec 16) (v : Bool) : Statement (.pass l d u t v) := fun _ => rfl
theorem reset : Statement .reset := fun _ => rfl

end Sys2Proof.Laws.CodeKind
end

