-- ==== Sys2Proof/Laws/Run.lean ====
section
/-! SUPPORT. Runs of steps: how `Host.Core.run` of this machine unfolds, and the one induction on
which claims about runs rest. -/

namespace Sys2Proof.Machine

theorem run_zero (s : State) : Host.Core.run Sys2Proof.core 0 s = .next s := rfl

/-- The first step of a run. -/
theorem run_of_step (k : Nat) {s t : State} (h : step s = .next t) :
    Host.Core.run Sys2Proof.core (k + 1) s = Host.Core.run Sys2Proof.core k t := by
  have h' : Sys2Proof.core.step s = .next t := h
  simp only [Host.Core.run, h']

/-- Every step has a next state, so a run has a last one. -/
theorem step_next (s : State) : ∃ t, step s = .next t := exec_next _ _

/-- A run of `j` steps and then of `k`. -/
theorem run_add (j k : Nat) {s t : State} (h : Host.Core.run Sys2Proof.core j s = .next t) :
    Host.Core.run Sys2Proof.core (j + k) s = Host.Core.run Sys2Proof.core k t := by
  induction j generalizing s with
  | zero =>
    have e : s = t := by
      have h' : (Host.Outcome.next s : Host.Outcome State Fault Refusal) = .next t := h
      injection h'
    rw [e, Nat.zero_add]
  | succ j ih =>
    obtain ⟨u, hu⟩ := step_next s
    rw [run_of_step j hu] at h
    rw [Nat.add_right_comm, run_of_step (j + k) hu]
    exact ih h

/-- A run and one more step. -/
theorem run_snoc {k : Nat} {s t u : State} (h : Host.Core.run Sys2Proof.core k s = .next t)
    (hu : step t = .next u) : Host.Core.run Sys2Proof.core (k + 1) s = .next u := by
  rw [run_add k 1 h, run_of_step 0 hu, run_zero]

/-- What holds at the start and is kept by every step holds after every run. -/
theorem run_keeps {Q : State → Prop} (hstep : ∀ a b, Q a → step a = .next b → Q b) (k : Nat)
    {s t : State} (hs : Q s) (h : Host.Core.run Sys2Proof.core k s = .next t) : Q t := by
  induction k generalizing s with
  | zero =>
    have h' : (Host.Outcome.next s : Host.Outcome State Fault Refusal) = .next t := h
    injection h' with e
    exact e ▸ hs
  | succ k ih =>
    obtain ⟨u, hu⟩ := step_next s
    rw [run_of_step k hu] at h
    exact ih (hstep s u hs hu) h

/-- A step with a pending period without reset is a pass with the fields of its word. -/
theorem step_drive {s : State} {piw : PortIn} {more : Nat} {rest : List Stimulus}
    (h : s.stimulus = .drive false piw more :: rest) :
    step s = .next (runPass Config.params (portLine piw) (portDownN piw) (portUpN piw)
      (portTarget piw) (portValid piw) (fetchState s)) := by
  unfold step fetchInstr
  rw [h]
  rfl

end Sys2Proof.Machine
end

