-- ==== Sys2Proof/Tests/Slice0.lean ====
section
/-! SUPPORT. Tests against the worked values of spec/: the well-formedness smoke tests, decoding of
words written out from 30_encoding.md, single operations from the tables of 95_test_vectors.md, and
for every statement with hypotheses a state that meets them.

The pattern and the maximum height of the tests are the stand-ins of 95_test_vectors.md, `P_TEST`
and 120; they are not the hardware's. -/

namespace Sys2Proof.Tests

open Sys2Proof Sys2Proof.Machine

/-- The cells of a string, index 0 first (R12). -/
def cells : List Nat → Nat
  | [] => 0
  | b :: bs => b + 2 * cells bs

/-- `P_TEST = 10011101011000101111001`, index 0 leftmost. -/
def pTest : List Nat := [1,0,0,1,1,1,0,1,0,1,1,0,0,0,1,0,1,1,1,1,0,0,1]

/-- The stand-in parameters. -/
def P : Params := { syncPattern := BitVec.ofNat 23 (cells pTest), maxHeight := 120 }

/-- A window written as a list of cells, index 0 first. -/
def win (l : List Nat) : Window := BitVec.ofNat 32 (cells l)

/-- The outcome's state, or a default when there is none. -/
def after (o : Host.Outcome State Fault Refusal) : State :=
  match o with
  | .next t => t
  | .fault _ => State.reset
  | .refused _ => State.reset

/-- A state of the controller: mode, motion with its relays, height, target (the tables' notation). -/
def at_ (mode : Mode) (motion : Motion) (cur : Nat) (tgt : Int) : State :=
  { State.reset with
    mode := mode, motion := motion, obs := Observation.blank
    relayUp := decide (motion = .movingUp), relayDown := decide (motion = .movingDown)
    curHeight := BitVec.ofNat 8 cur, tgtHeight := BitVec.ofInt 16 tgt }

/-- What the controller tables list: mode, motion, target, relays (up, down), events. -/
structure Seen where
  mode : Mode
  motion : Motion
  target : Int
  relays : Bit × Bit
  events : List RelayEvent
deriving DecidableEq, Repr

/-- What the controller tables list, of a state. -/
def seen (s : State) : Seen := ⟨s.mode, s.motion, s.tgt, (s.relayUp, s.relayDown), s.obs.events⟩

/-! ## Well-formedness: an ill-formed term for each check -/

theorem test_wf_refuses_target_above : Instr.wf (.settarget 32768) = false := by decide
theorem test_wf_refuses_target_below : Instr.wf (.settarget (-32769)) = false := by decide
theorem test_wf_refuses_candidate_above : Instr.wf (.accept 256) = false := by decide
theorem test_wf_refuses_micro_lines :
    (Stimulus.oper .enterUp).wf = false ∧ (Stimulus.oper .enterDown).wf = false ∧
      (Stimulus.oper .stop).wf = false := by decide
theorem test_wf_line_checks_its_operand : (Stimulus.oper (.accept 256)).wf = false := by decide
theorem test_wf_admits_the_bounds :
    Instr.wf (.settarget 32767) = true ∧ Instr.wf (.settarget (-32768)) = true ∧
      Instr.wf (.accept 255) = true := by decide

/-! ## Decoding (30_encoding.md R70, R73, R76, R80) -/

/-- R73: the idle word; R79: `PIW = line + 2*dn + 4*up`. -/
theorem test_decode_pass_idle :
    decodeTableWord 24 0b00000000000000000110 = some (.pass false true true 0#16 false) := by decide
/-- R79: line high, down pressed, up released. -/
theorem test_decode_pass_fields :
    decodeTableWord 24 0b00000000000000000101 = some (.pass true false true 0#16 false) := by decide
/-- R73: `0x80326` is set target 100: valid bit, then 100 in bits 18:3, then up, down, line. -/
theorem test_decode_settarget_100 :
    decodeTableWord 24 0b10000000001100100110 = some (.settarget 100) := by decide
/-- R73: `0xFFFFE` carries the operand -1. -/
theorem test_decode_settarget_minus_one :
    decodeTableWord 24 0xFFFFE = some (.settarget (-1)) := by decide
/-- R73: the same word on the pins is a pass that presents the command. -/
theorem test_decode_period_with_command :
    decodePeriod false 0x80326#20 = .pass false true true 100#16 true := by decide
/-- R73: `rst = 1` is RESET whatever `PIW` is. -/
theorem test_decode_period_reset : decodePeriod true 0xFFFFF#20 = .reset := by decide
/-- V4 row 1: the frame for 75, `raw` 180. -/
theorem test_decode_frame_75 :
    decodeWire P.syncPattern (win (pTest ++ [0,0,1,0,1,1,0,1] ++ [0])) = .ok (.frame 180#8 false) := by
  decide
/-- V4 row 3: index 22 differs, so it is no frame. -/
theorem test_decode_refuses_damaged_pattern :
    decodeWire P.syncPattern (win ([1,0,0,1,1,1,0,1,0,1,1,0,0,0,1,0,1,1,1,1,0,0,0]
      ++ [0,0,1,0,1,1,0,1] ++ [0])) = .error .notAFrame := by decide
theorem test_decode_refuses_by_name :
    decodeTable 24 0x100000 = .error .bitsAboveTheWord ∧
      decodeTable 8 0 = .error (.noRowOfThisLength 8) ∧
      decode P.syncPattern (.command 0x00006#20) = .error .noCommandPresented := by decide
/-- R73: the encoder writes the words of the examples. -/
theorem test_encode_settarget : encode P.syncPattern (.settarget 100) = some (.command 0x80326#20) := by
  decide
theorem test_encode_pass :
    encode P.syncPattern (.pass false true false 0#16 false) = some (.period false 0x00002#20) := by
  decide

/-- R76: what selects each operation of a pass, with the switch pins `up` pressed, `down` released. -/
theorem test_selected_in_a_firing_pass :
    let e : Enables :=
      { edge := false, fired := true, bit := true, matchCount := 23, candidate := 75 }
    passOrder.map (selected 0x80322#20 e) =
      [none, some (.tick false), some (.sample false), some (.pushbit true), some .checkmatch,
        some .extract, some (.accept 75), some (.settarget 100), some (.switch false true),
        some .ctltick, some .publish] := by decide
theorem test_selected_in_an_edge_pass :
    let e : Enables :=
      { edge := true, fired := false, bit := false, matchCount := 0, candidate := 0 }
    passOrder.map (selected 0x00007#20 e) =
      [some .edge, some (.tick true), none, none, none, none, none, none, none, none,
        some .publish] := by decide
theorem test_selected_without_full_match :
    let e : Enables :=
      { edge := false, fired := true, bit := false, matchCount := 22, candidate := 75 }
    selected 0x00006#20 e .extract = none ∧ selected 0x00006#20 e .accept = none := by decide

/-! ## Bit Sampler (V1, V2) -/

/-- R101's example: `phase = 812`. -/
theorem test_edge_rephases :
    (after (exec .edge { State.reset with phase := 812#10 })).phase = 500#10 := by decide
/-- V2: 999 fires. -/
theorem test_tick_fires :
    let t := after (exec (.tick false) { State.reset with phase := 999#10 })
    t.phase = 0#10 ∧ t.obs.fired = true := by decide
/-- V2: 998 counts. -/
theorem test_tick_counts :
    let t := after (exec (.tick false) { State.reset with phase := 998#10 })
    t.phase = 999#10 ∧ t.obs.fired = false := by decide
/-- R103's example. -/
theorem test_sample_level : (after (exec (.sample true) State.reset)).obs.bit = some true := by decide

/-! ## Frame Decoder (V3, V4, V5) -/

/-- V3 row 4: the push that completes the frame for 75. -/
theorem test_pushbit_completes_the_frame :
    (after (exec (.pushbit false) { State.reset with
      window := win ([0] ++ pTest ++ [0,0,1,0,1,1,0,1]) })).window
      = win (pTest ++ [0,0,1,0,1,1,0,1] ++ [0]) := by decide
/-- V3 row 3: the old head is lost. -/
theorem test_pushbit_drops_the_head :
    (after (exec (.pushbit false) { State.reset with window := win [1] })).window = 0#32 := by decide
/-- V4 row 5: index 5 differs. -/
theorem test_checkmatch_prefix :
    matchCount P.syncPattern (win ([1,0,0,1,1,0,0,1,0,1,1,0,0,0,1,0,1,1,1,1,0,0,1]
      ++ [0,0,1,0,1,1,0,1] ++ [0])) = 5 := by decide
/-- V4 row 8: the pattern in the newest 23 cells does not match. -/
theorem test_checkmatch_looks_at_the_head :
    matchCount P.syncPattern (win ([0,0,0,0,0,0,0,0,0] ++ pTest)) = 0 := by decide
/-- V5: the field of 75. -/
theorem test_extract_75 :
    let t := after (exec .extract { State.reset with
      window := win (pTest ++ [0,0,1,0,1,1,0,1] ++ [0]) })
    t.obs.raw = some 180#8 ∧ t.obs.candidate = some 75#8 := by decide
/-- V5: the field of 45 (Scenario C), with the ignored cell 31 at 1. -/
theorem test_extract_45 :
    (after (exec .extract { State.reset with
      window := win (pTest ++ [0,1,0,0,1,0,1,1] ++ [1]) })).obs.candidate = some 45#8 := by decide
/-- P1, pass 31500: the frame for 75 is decoded and accepted. -/
theorem test_decode_accepts_75 :
    let t := decodeBit P false { State.reset with
      window := win ([0] ++ pTest ++ [0,0,1,0,1,1,0,1]) }
    t.curHeight = 75#8 ∧ t.obs.accepted = some true ∧ t.obs.matchCount = some 23 := by decide
/-- V4 row 9: one push too early nothing is decoded. -/
theorem test_decode_waits_for_the_head :
    let t := decodeBit P true { State.reset with
      window := win ([0,0] ++ pTest ++ [0,0,1,0,1,1,0]) }
    t.curHeight = 0#8 ∧ t.obs.candidate = none := by decide
/-- R79: FRAME 75 begins with `P[0] = 1` and ends with the field's last bit and the tail. -/
theorem test_frame_wire_bits :
    let bits := (transmitFrame P 180#8 false State.reset).stimulus
    bits.length = 32 ∧ bits[0]? = some (.drive false 7#20 999) ∧
      bits[30]? = some (.drive false 7#20 999) ∧ bits[31]? = some (.drive false 6#20 999) := by decide

/-! ## Height Filter (V6) -/

/-- V6 rows 8 and 9: delta 4 is accepted, delta 5 is dropped. -/
theorem test_accept_delta :
    (after (exec (.accept 84) (at_ .auto .stopped 80 0))).curHeight = 84#8 ∧
      (after (exec (.accept 85) (at_ .auto .stopped 80 0))).curHeight = 80#8 := by decide
/-- V6 rows 1 to 4 and 14: the range is inclusive and tested first. -/
theorem test_accept_range :
    [59, 60, 120, 121].map (fun c =>
      ((after (exec (.accept c) (at_ .auto .stopped 0 0))).curHeight.toNat)) = [0, 60, 120, 0] ∧
      (after (exec (.accept 59) (at_ .auto .stopped 62 0))).obs.acceptReason = some .outOfRange := by
  decide

/-! ## Movement Controller (V7 to V10) -/

/-- V10: a reversal goes through (0,0). -/
theorem test_enterUp_from_down :
    seen (after (exec .enterUp (at_ .auto .movingDown 90 70)))
      = ⟨.auto, .movingUp, 70, (true, false), [.dn false, .up true]⟩ := by decide
theorem test_enterDown_from_up :
    seen (after (exec .enterDown (at_ .auto .movingUp 90 110)))
      = ⟨.auto, .movingDown, 110, (false, true), [.up false, .dn true]⟩ := by decide
/-- R153's example. -/
theorem test_stop_snaps :
    seen (after (exec .stop (at_ .auto .movingUp 99 100)))
      = ⟨.auto, .stopped, 99, (false, false), [.up false, .dn false]⟩ := by decide
/-- V7: 119 moves up, 120 does not (the maximum itself is no upward target). -/
theorem test_settarget_below_and_at_the_maximum :
    seen (setTarget P 119 (at_ .auto .stopped 70 0))
      = ⟨.auto, .movingUp, 119, (true, false), [.dn false, .up true]⟩ ∧
    seen (setTarget P 120 (at_ .auto .stopped 70 0))
      = ⟨.auto, .stopped, 70, (false, false), [.up false, .dn false]⟩ := by decide
/-- V7: the lowest operand; and a command in ManualOverride is dropped. -/
theorem test_settarget_lowest_and_rejected :
    seen (setTarget P (-32768) (at_ .auto .stopped 70 0))
      = ⟨.auto, .movingDown, -32768, (false, true), [.up false, .dn true]⟩ ∧
    seen (setTarget P 100 (at_ .manualOverride .movingDown 70 0))
      = ⟨.manualOverride, .movingDown, 0, (false, true), []⟩ := by decide
/-- V8 rows 1, 2: going up. -/
theorem test_ctltick_up :
    seen (after (exec .ctltick (at_ .auto .movingUp 98 100)))
      = ⟨.auto, .movingUp, 100, (true, false), []⟩ ∧
    seen (after (exec .ctltick (at_ .auto .movingUp 99 100)))
      = ⟨.auto, .stopped, 99, (false, false), [.up false, .dn false]⟩ := by decide
/-- V8 rows 14, 15: going down at height 0, on integers. -/
theorem test_ctltick_down_at_zero :
    seen (after (exec .ctltick (at_ .auto .movingDown 0 (-2))))
      = ⟨.auto, .stopped, 0, (false, false), [.up false, .dn false]⟩ ∧
    seen (after (exec .ctltick (at_ .auto .movingDown 0 (-3))))
      = ⟨.auto, .movingDown, -3, (false, true), []⟩ := by decide
/-- V9: both pressed in Auto, up wins; the other switch in ManualOverride changes nothing. -/
theorem test_switch_both_and_other :
    seen (after (exec (.switch false false) (at_ .auto .movingDown 90 100)))
      = ⟨.manualOverride, .movingUp, 100, (true, false), [.dn false, .up true]⟩ ∧
    seen (after (exec (.switch true false) (at_ .manualOverride .movingUp 90 100)))
      = ⟨.manualOverride, .movingUp, 100, (true, false), []⟩ := by decide
/-- V9: down alone takes over; release of both stops and snaps. -/
theorem test_switch_down_and_release :
    seen (after (exec (.switch true false) (at_ .auto .stopped 90 100)))
      = ⟨.manualOverride, .movingDown, 100, (false, true), [.up false, .dn true]⟩ ∧
    seen (after (exec (.switch true true) (at_ .manualOverride .movingDown 90 100)))
      = ⟨.auto, .stopped, 90, (false, false), [.up false, .dn false]⟩ := by decide

/-! ## Status egress (V11) -/

/-- V11 rows 2, 3. -/
theorem test_publish_strobes :
    let t := after (exec .publish { at_ .auto .stopped 75 0 with pubTimer := 4999999#23 })
    t.obs.pubStrobe = true ∧ t.obs.pubValue = 75#8 ∧ t.lastPub = 75#8 ∧ t.pubTimer = 0#23 := by
  decide
theorem test_publish_counts :
    let t := after (exec .publish { at_ .auto .stopped 75 0 with pubTimer := 4999998#23 })
    t.obs.pubStrobe = false ∧ t.lastPub = 0#8 ∧ t.pubTimer = 4999999#23 := by decide

/-! ## The pass and reset (V12) -/

/-- V12 row 6: a switch press overrides the command of the same pass. -/
theorem test_pass_switch_over_command :
    let t := runPass P false true false 100#16 true { at_ .auto .stopped 70 0 with phase := 999#10 }
    seen t = ⟨.manualOverride, .movingUp, 100, (true, false),
      [.dn false, .up true, .dn false, .up true]⟩ ∧ t.pow = 0x00119#19 := by decide
/-- V12 row 9: the accepted height stops the motion in the same pass. -/
theorem test_pass_accept_stops :
    let t := runPass P false true true 0#16 false { at_ .auto .movingUp 98 100 with
      phase := 999#10, window := win ([0] ++ pTest ++ [0,0,1,1,1,0,0,1]) }
    seen t = ⟨.auto, .stopped, 99, (false, false), [.up false, .dn false]⟩ ∧
      t.curHeight = 99#8 ∧ t.pow = 0x0018C#19 := by decide
/-- R185's example. -/
theorem test_reset_while_moving :
    let t := after (exec .reset (at_ .manualOverride .movingUp 98 100))
    seen t = ⟨.auto, .stopped, 0, (false, false), [.up false, .dn false]⟩ ∧ t.curHeight = 0#8 ∧
      t.pow = 0#19 := by decide

/-! ## Steps -/

/-- V12 row 2: one step with the line high from reset. -/
theorem test_step_edge_after_reset :
    let t := after (step { State.reset with stimulus := [.drive false 0x00007#20 0] })
    t.linePrev = true ∧ t.phase = 500#10 ∧ t.pubTimer = 1#23 ∧ t.pow = 0#19 ∧ t.stimulus = [] := by
  decide
/-- The step after `withFetchWord` runs the word's instruction. -/
theorem test_step_runs_a_table_word :
    (after (step (State.reset.withFetchWord 24 0x80006))).obs.commandReason
      = some .invalidTarget := by decide
/-- R79: `FRAME h` is 31 wire bits, `HOLD 0` is none. -/
theorem test_assemble_frame_and_hold :
    (assemble P (.frame 75#8)).length = 31 ∧
      (assemble P (.frame 75#8)).head? = some (.drive false 7#20 999) ∧
      assemble P (.hold 0 true true true) = [] ∧
      assemble P (.passSet false true true (-1)) = [.drive false 0xFFFFE#20 0] := by decide
/-- R8: the counts are the quotients of the table. -/
theorem test_config_counts :
    Config.cyclePasses = 1000 ∧ Config.halfPasses = 500 ∧ Config.pubPasses = 5000000 := by decide
/-- V10: a reversal never shows both relays. -/
theorem test_pin_trace_of_a_reversal :
    pinTrace (false, true) [.dn false, .up true] = [(false, true), (false, false), (true, false)] ∧
      neverBoth (false, true) [.up true, .dn false] = false := by decide

/-! ## The hypotheses of the statements are met: one witness a statement -/

theorem witness_EncodedInstructionDecodesToItself (p : SyncPattern) :
    (Instr.settarget 32767).wf = true ∧ (Instr.settarget (-32768)).wf = true ∧
      (∃ c, encode p (.settarget 32767) = some c) ∧ (∃ c, encode p (.frame 255#8 true) = some c) ∧
      (∃ c, encode p (.pass true true true 0xFFFF#16 true) = some c) ∧
      ∃ c, encode p .reset = some c :=
  ⟨by decide, by decide, ⟨_, rfl⟩, ⟨_, rfl⟩, ⟨_, rfl⟩, ⟨_, rfl⟩⟩
theorem witness_DecodedPassAndFrameEncodeToTheirWord :
    (∃ i, decode P.syncPattern (.period false 0xFFFFF#20) = .ok i) ∧
      ∃ i, decode P.syncPattern (.wire (win pTest)) = .ok i :=
  ⟨⟨_, rfl⟩, ⟨.frame 0#8 false, by decide⟩⟩
theorem witness_CommandBitSelectsSettarget :
    (0x80000 : Nat) / 2 ^ 19 = 1 ∧ (0xFFFFF : Nat) / 2 ^ 19 = 1 ∧ (0x7FFFF : Nat) / 2 ^ 19 = 0 ∧
      (0xFFFFF : Nat) < 2 ^ 20 := by decide
theorem witness_StepRunsTheDecodedInstruction :
    State.reset.stimulus = [] ∧
      ({ State.reset with stimulus := [.drive true 0#20 1] } : State).stimulus
        = .drive true 0#20 1 :: [] ∧
      decode P.syncPattern (.period true 0#20) = .ok .reset ∧
      ({ State.reset with stimulus := [.oper .edge] } : State).stimulus = .oper .edge :: [] ∧
      decodeTableWord 24 0x80000 = some (.settarget 0) :=
  ⟨rfl, rfl, rfl, rfl, by decide⟩
theorem witness_TickCountsOrFires :
    1000 ≤ (({ State.reset with phase := 999#10 } : State)).phase.toNat + 1 ∧
      (({ State.reset with phase := 998#10 } : State)).phase.toNat + 1 < 1000 := by decide
theorem witness_PassDetectsTheEdgeAndUpdatesThePhaseOnce :
    true ≠ State.reset.linePrev ∧ false = State.reset.linePrev ∧
      1000 ≤ (999#10).toNat + 1 ∧ (998#10).toNat + 1 < 1000 := by decide
theorem witness_SamplerFiresInTheFiveHundredthPassAfterAnEdge :
    let s : State := { State.reset with
      phase := 500#10, linePrev := true, stimulus := [.drive false 0x00007#20 499] }
    s.phase = 500#10 ∧ s.linePrev = (0x00007#20).getLsbD 0 ∧
      s.stimulus = .drive false 0x00007#20 499 :: [] ∧ 499 ≤ 499 := by decide
theorem witness_LockedWireBitIsSampledExactlyOnce :
    let s : State := { State.reset with
      phase := 499#10, stimulus := [.drive false 0x00007#20 999] }
    s.phase = 499#10 ∧ s.stimulus = .drive false 0x00007#20 999 :: [] := by decide
theorem witness_TransmittedHeightIsExtracted :
    ∀ k, k < 8 → (win (pTest ++ [0,0,1,0,1,1,0,1] ++ [0])).getLsbD (23 + k) = !(75#8).getLsbD k := by
  decide
/-- The window that a push completes to a full match, for every pattern. -/
theorem witness_DecodeAcceptsOnlyOnAFullMatch (p : SyncPattern) :
    ∃ s : State, ∀ k, k < 23 → (shiftIn false s.window).getLsbD k = p.getLsbD k := by
  refine ⟨{ State.reset with window := BitVec.ofNat 32 (2 * p.toNat) }, fun k hk => ?_⟩
  have hp := pattern_lt p
  rw [← BitVec.testBit_toNat, ← BitVec.testBit_toNat]
  congr 1
  simp [shiftIn]
  omega
/-- The window that a push does not complete, for every pattern: its head disagrees. -/
theorem witness_DecodeAcceptsOnlyOnAFullMatch_mismatch (p : SyncPattern) :
    ∃ s : State, (shiftIn false s.window).getLsbD 0 ≠ p.getLsbD 0 := by
  cases h : p.getLsbD 0
  · exact ⟨{ State.reset with window := 2#32 }, by decide⟩
  · exact ⟨State.reset, by decide⟩
/-- The two clauses of R122, for every pattern. -/
theorem witness_FullMatchIsThePatternInTheOldestCells (p : SyncPattern) :
    (∃ s : State, ∀ k, k < 23 → s.window.getLsbD k = p.getLsbD k) ∧
      ∃ s : State, ¬∀ k, k < 23 → s.window.getLsbD k = p.getLsbD k := by
  refine ⟨⟨{ State.reset with window := p.setWidth 32 }, fun k hk => ?_⟩, ?_⟩
  · simp [BitVec.getLsbD_setWidth]; omega
  · cases h : p.getLsbD 0
    · exact ⟨{ State.reset with window := 1#32 }, fun hs => by have := hs 0 (by decide); simp_all⟩
    · exact ⟨State.reset, fun hs => by have := hs 0 (by decide); simp_all [State.reset, Config.windowReset]⟩
theorem witness_ReceivedFrameFillsTheWindow :
    ({ State.reset with phase := 499#10 } : State).phase = 499#10 := rfl
theorem witness_RingBufferShowsTheSameWindow :
    ringShows { cells := Vector.replicate 32 false, cursor := 31 } State.reset.window := by
  intro i
  simp [ringCell, cell, State.reset, Vector.get]
theorem witness_AcceptAppliesItsTestsInOrder :
    (59 < 60 ∨ 120 < 59) ∧ (60 ≤ 60 ∧ 60 ≤ 120) ∧ (121 < 60 ∨ 120 < 121) ∧
      (at_ .auto .stopped 0 0).curHeight = 0#8 ∧ (at_ .auto .stopped 80 0).curHeight ≠ 0#8 ∧
      |((at_ .auto .stopped 80 0).curHeight.toNat : Int) - 84| < 5 ∧
      5 ≤ |((at_ .auto .stopped 80 0).curHeight.toNat : Int) - 85| := by decide
theorem witness_FilterHasTheTestableProperties :
    (at_ .auto .stopped 0 0).curHeight = 0#8 ∧ (at_ .auto .stopped 80 0).curHeight ≠ 0#8 ∧
      5 ≤ |((at_ .auto .stopped 80 0).curHeight.toNat : Int) - 75| := by decide
theorem witness_KnownHeightMovesByAtMostFourAPass :
    60 ≤ (at_ .auto .stopped 60 0).curHeight.toNat ∧
      (at_ .auto .stopped 120 0).curHeight.toNat ≤ 120 := by decide
/-- The four arms of SETTARGET, each at a boundary, with the stand-in maximum (the hardware's is
open, so an upward arm exists exactly when it is above 1). -/
theorem witness_SettargetTakesTheFirstArmThatApplies :
    commandArm 120 .manualOverride 70 100 = .rejected ∧ commandArm 120 .auto 70 119 = .moveUp ∧
      commandArm 120 .auto 70 69 = .moveDown ∧ commandArm 120 .auto 70 70 = .invalid ∧
      commandArm 120 .auto 70 120 = .invalid ∧ (-32768 : Int) ≤ 119 ∧ (119 : Int) ≤ 32767 := by
  decide
theorem witness_SettargetTakesTheFirstArmThatApplies_up (h : 1 < Config.maxHeight) :
    (((at_ .auto .stopped 0 0).curHeight.toNat : Int) < 1 ∧ 1 < Config.maxHeight) :=
  ⟨by decide, h⟩
theorem witness_CtltickStopsWithinTheOffset :
    let u := at_ .auto .movingUp 99 100
    let v := at_ .auto .movingDown 83 80
    (u.mode = .auto ∧ u.motion = .movingUp ∧ (u.curHeight.toNat : Int) + 1 ≥ u.tgtHeight.toInt) ∧
      ¬(v.mode = .auto ∧ v.motion = .movingDown ∧
        (v.curHeight.toNat : Int) - 2 ≤ v.tgtHeight.toInt) := by decide
theorem witness_SwitchTakesOverAndReleases :
    (at_ .manualOverride .movingUp 90 100).mode = .manualOverride ∧
      (at_ .auto .stopped 90 100).mode = .auto := by decide
theorem witness_DownwardTargetBelowFiftyEightIsNeverReached :
    let s := at_ .auto .movingDown 60 57
    s.mode = .auto ∧ s.motion = .movingDown ∧ 60 ≤ s.curHeight.toNat ∧ s.tgtHeight.toInt < 58 := by
  decide
theorem witness_RelaysAreNeverBothEnergisedEvenTransiently :
    let s := at_ .auto .movingUp 90 100
    ¬(s.relayUp = true ∧ s.relayDown = true) := by decide
theorem witness_EveryElementHasOnlyItsWriters :
    fillsAPeriod .stop = false ∧ fillsAPeriod (.frame 0#8 false) = false := by decide
theorem witness_PublishChecksAtTheEndOfTheInterval :
    (4999998#23).toNat + 1 < 5000000 ∧ 5000000 ≤ (4999999#23).toNat + 1 ∧
      (at_ .auto .stopped 75 0).curHeight ≠ (at_ .auto .stopped 75 0).lastPub ∧
      State.reset.curHeight = State.reset.lastPub := by decide
theorem witness_StrobesAreAtLeastAnIntervalApart :
    State.reset.pubTimer = 0#23 ∧ 0 < 4999999 ∧ 4999999 < 5000000 := by decide
theorem witness_NonFiringPassLeavesDecoderAndControllerAlone :
    (true ≠ State.reset.linePrev ∨ State.reset.phase.toNat + 1 < 1000) ∧
      (({ State.reset with phase := 998#10 } : State)).phase.toNat + 1 < 1000 := by decide
theorem witness_AutomaticMotionEndsOnTheHeightOfThePass :
    let s := { at_ .auto .movingUp 98 100 with phase := 999#10 }
    let r := { at_ .auto .movingDown 62 60 with phase := 999#10 }
    false = s.linePrev ∧ 1000 ≤ s.phase.toNat + 1 ∧ s.mode = .auto ∧ s.motion = .movingUp ∧
      false = r.linePrev ∧ 1000 ≤ r.phase.toNat + 1 ∧ r.mode = .auto ∧ r.motion = .movingDown := by
  decide
theorem witness_SwitchOverridesTheCommandOfTheSamePass :
    let s := { at_ .auto .movingDown 98 80 with phase := 999#10 }
    false = s.linePrev ∧ 1000 ≤ s.phase.toNat + 1 ∧ s.mode = .auto ∧
      ((false : Bit) = false ∨ (false : Bit) = false) ∧
      ((true : Bit) = false ∨ (false : Bit) = false) := by decide
theorem witness_CommandInManualOverrideIsLost :
    (at_ .manualOverride .movingUp 98 100).mode = .manualOverride := rfl
theorem witness_IdleTargetHasNoEffectOnAnyOutput :
    let s := at_ .manualOverride .movingUp 98 100
    let r := at_ .auto .stopped 98 100
    ¬(s.mode = .auto ∧ s.motion ≠ .stopped) ∧ ¬(r.mode = .auto ∧ r.motion ≠ .stopped) := by decide
theorem witness_EveryStepKeepsTheInvariant :
    BlockInv { at_ .manualOverride .movingDown 120 60 with
      phase := 999#10, pubTimer := 4999999#23, lastPub := 60#8
      stimulus := [.drive false 0#20 3, .oper (.settarget 32767), .oper (.accept 255)] } where
  height := by decide
  exclusive := by decide
  relays := by decide
  manual := by decide
  counters := by decide
  published := by decide
  lines := by decide

end Sys2Proof.Tests
end

/-! # The state's reset values, writers and invariants (10_state.md)

First the step's fetch and the three updates of the relays; then the statements on the relays, on
the invariants of R34, on each element's writers and on the target. -/

namespace Sys2Proof.Machine

/-! ## What a step takes from the environment -/

@[simp] theorem fetchState_curHeight (s : State) : (fetchState s).curHeight = s.curHeight := by
  unfold fetchState; split <;> rfl

@[simp] theorem fetchState_motion (s : State) : (fetchState s).motion = s.motion := by
  unfold fetchState; split <;> rfl

@[simp] theorem fetchState_mode (s : State) : (fetchState s).mode = s.mode := by
  unfold fetchState; split <;> rfl

@[simp] theorem fetchState_relayUp (s : State) : (fetchState s).relayUp = s.relayUp := by
  unfold fetchState; split <;> rfl

@[simp] theorem fetchState_relayDown (s : State) : (fetchState s).relayDown = s.relayDown := by
  unfold fetchState; split <;> rfl

@[simp] theorem fetchState_phase (s : State) : (fetchState s).phase = s.phase := by
  unfold fetchState; split <;> rfl

@[simp] theorem fetchState_lastPub (s : State) : (fetchState s).lastPub = s.lastPub := by
  unfold fetchState; split <;> rfl

@[simp] theorem fetchState_pubTimer (s : State) : (fetchState s).pubTimer = s.pubTimer := by
  unfold fetchState; split <;> rfl

@[simp] theorem fetchState_obs (s : State) : (fetchState s).obs = Observation.blank := by
  unfold fetchState; split <;> rfl

theorem clearObs_eq_self {s : State} (h : s.obs = Observation.blank) : clearObs s = s := by
  rw [clearObs, ← h]

/-! ## The relay pins along the events of a step (R82, R150) -/

/-- One more event puts one more point at the end of the trace. -/
theorem pinTrace_concat {pins last : Bit × Bit} {es : List RelayEvent} (e : RelayEvent)
    (h : (pinTrace pins es).getLast? = some last) :
    pinTrace pins (es ++ [e]) = pinTrace pins es ++ [pinsAfter last e] := by
  induction es generalizing pins with
  | nil =>
    have : pins = last := by simpa [pinTrace] using h
    simp [pinTrace, this]
  | cons e' es ih =>
    have hne : pinTrace (pinsAfter pins e') es ≠ [] := by cases es <;> simp [pinTrace]
    rw [pinTrace, List.getLast?_cons_of_ne_nil hne] at h
    simp [pinTrace, ih h]

/-- The recorded events lead from `pins` to the relays' values, with never both relays on. -/
structure RelaysTraced (pins : Bit × Bit) (s : State) : Prop where
  exclusive : neverBoth pins s.obs.events = true
  last : (pinTrace pins s.obs.events).getLast? = some (s.relayUp, s.relayDown)

variable {pins : Bit × Bit} {s t : State}

/-- The property is about the events and the two relays alone. -/
theorem RelaysTraced.congr (h : RelaysTraced pins s) (hev : t.obs.events = s.obs.events)
    (hup : t.relayUp = s.relayUp) (hdn : t.relayDown = s.relayDown) : RelaysTraced pins t :=
  ⟨by rw [hev]; exact h.exclusive, by rw [hev, hup, hdn]; exact h.last⟩

/-- The test that `neverBoth` makes of one point of the trace. -/
theorem relaysExclusive_iff : relaysExclusive s ↔ (!(s.relayUp && s.relayDown)) = true := by
  simp [imp_iff_not_or]

/-- With no event yet, relays that are not both on are a good start. -/
theorem relaysTraced_clearObs (h : relaysExclusive s) :
    RelaysTraced (s.relayUp, s.relayDown) (clearObs s) := by
  constructor
  · simpa [Observation.blank, pinTrace, neverBoth] using relaysExclusive_iff.mp h
  · simp [Observation.blank, pinTrace]

/-- One more event, after which the relays are again not both on, keeps the trace. -/
theorem RelaysTraced.concat (h : RelaysTraced pins s) (e : RelayEvent)
    (hev : t.obs.events = s.obs.events ++ [e])
    (hpins : (t.relayUp, t.relayDown) = pinsAfter (s.relayUp, s.relayDown) e)
    (hexclusive : relaysExclusive t) : RelaysTraced pins t := by
  have htrace : pinTrace pins t.obs.events
      = pinTrace pins s.obs.events ++ [(t.relayUp, t.relayDown)] := by
    rw [hev, pinTrace_concat e h.last, hpins]
  have hbefore := h.exclusive
  constructor
  · rw [neverBoth] at hbefore ⊢
    rw [htrace, List.all_append, hbefore]
    simpa using relaysExclusive_iff.mp hexclusive
  · simp [htrace]

/-- A write of the up relay is safe when it releases it or the down relay is off. -/
theorem relaysTraced_writeRelayUp {v : Bit} (h : RelaysTraced pins s)
    (hv : v = true → s.relayDown = false) : RelaysTraced pins (writeRelayUp v s) :=
  h.concat (.up v) rfl rfl fun ⟨hup, hdn⟩ => Bool.false_ne_true ((hv hup).symm.trans hdn)

/-- A write of the down relay is safe when it releases it or the up relay is off. -/
theorem relaysTraced_writeRelayDown {v : Bit} (h : RelaysTraced pins s)
    (hv : v = true → s.relayUp = false) : RelaysTraced pins (writeRelayDown v s) :=
  h.concat (.dn v) rfl rfl fun ⟨hup, hdn⟩ => Bool.false_ne_true ((hv hdn).symm.trans hup)

/-- ENTER_UP releases the down relay before it energises the other (R151). -/
theorem relaysTraced_enterUp (h : RelaysTraced pins s) : RelaysTraced pins (enterUp s) :=
  have released : RelaysTraced pins (writeRelayDown false s) :=
    relaysTraced_writeRelayDown h nofun
  (relaysTraced_writeRelayUp (v := true) released fun _ => rfl).congr rfl rfl rfl

/-- ENTER_DOWN releases the up relay before it energises the other (R152). -/
theorem relaysTraced_enterDown (h : RelaysTraced pins s) : RelaysTraced pins (enterDown s) :=
  have released : RelaysTraced pins (writeRelayUp false s) := relaysTraced_writeRelayUp h nofun
  (relaysTraced_writeRelayDown (v := true) released fun _ => rfl).congr rfl rfl rfl

theorem relaysTraced_releaseBoth (h : RelaysTraced pins s) :
    RelaysTraced pins (writeRelayDown false (writeRelayUp false s)) :=
  relaysTraced_writeRelayDown (relaysTraced_writeRelayUp h nofun) nofun

theorem relaysTraced_stop (h : RelaysTraced pins s) : RelaysTraced pins (stop s) :=
  (relaysTraced_releaseBoth h).congr rfl rfl rfl

theorem relaysTraced_setTarget (P : Params) (n : Int) (h : RelaysTraced pins s) :
    RelaysTraced pins (setTarget P n s) := by
  rcases setTarget_cases P n s with ⟨-, e⟩ | ⟨-, -, -, e⟩ | ⟨-, -, e⟩ | ⟨-, -, e⟩ <;> rw [e]
  · exact h.congr rfl rfl rfl
  · exact relaysTraced_enterUp (h.congr rfl rfl rfl)
  · exact relaysTraced_enterDown (h.congr rfl rfl rfl)
  · exact relaysTraced_stop (h.congr rfl rfl rfl)

theorem relaysTraced_ctlTick (h : RelaysTraced pins s) : RelaysTraced pins (ctlTick s) := by
  rcases ctlTick_cases s with ⟨-, -, -, e⟩ | ⟨-, -, -, e⟩ | ⟨-, -, e⟩ <;> rw [e]
  · exact relaysTraced_stop h
  · exact relaysTraced_stop h
  · exact h

theorem relaysTraced_switchInput (upN downN : Bit) (h : RelaysTraced pins s) :
    RelaysTraced pins (switchInput upN downN s) := by
  rcases switchInput_cases upN downN s with ⟨-, -, -, e⟩ | ⟨-, -, e⟩ | ⟨-, -, -, e⟩ | ⟨-, e⟩ <;>
    rw [e]
  · exact (relaysTraced_stop h).congr rfl rfl rfl
  · exact relaysTraced_enterUp (h.congr rfl rfl rfl)
  · exact relaysTraced_enterDown (h.congr rfl rfl rfl)
  · exact h

theorem relaysTraced_decoderStage (P : Params) (line : Bit) (h : RelaysTraced pins s) :
    RelaysTraced pins (decoderStage P line s) :=
  h.congr (by simp) (by simp) (by simp)

theorem relaysTraced_commandStage (P : Params) (target : Target) (valid : Bit)
    (h : RelaysTraced pins s) : RelaysTraced pins (commandStage P target valid s) := by
  rw [commandStage]
  split
  · exact relaysTraced_setTarget P _ h
  · exact h

theorem relaysTraced_controlStage (upN downN : Bit) (h : RelaysTraced pins s) :
    RelaysTraced pins (controlStage upN downN s) := by
  rw [controlStage]
  split
  · exact relaysTraced_ctlTick (relaysTraced_switchInput upN downN h)
  · exact h

/-- In a pass only the command and, when it fires, SWITCH and CTLTICK write relays (R180). -/
theorem relaysTraced_runPass (P : Params) (line dn up : Bit) (target : Target) (valid : Bit)
    (h : RelaysTraced pins (clearObs s)) :
    RelaysTraced pins (runPass P line dn up target valid s) := by
  have sampled : RelaysTraced pins (samplerStage line (clearObs s)) := by
    rw [samplerStage_eq]
    exact h.congr rfl rfl rfl
  have decoded := relaysTraced_decoderStage P line sampled
  have commanded := relaysTraced_commandStage P target valid decoded
  have controlled := relaysTraced_controlStage up dn commanded
  exact controlled.congr rfl rfl rfl

/-- Every operation that starts with an empty record keeps the relays traced. -/
theorem relaysTraced_exec {i : Instr} (hobs : s.obs = Observation.blank) (h : RelaysTraced pins s)
    (hexec : exec i s = .next t) : RelaysTraced pins t := by
  have hclear : RelaysTraced pins (clearObs s) := by rwa [clearObs_eq_self hobs]
  cases i <;> obtain rfl := Host.Outcome.next.inj hexec
  case pass line dn up target valid => exact relaysTraced_runPass _ line dn up target valid hclear
  case reset => exact (relaysTraced_releaseBoth hclear).congr rfl rfl rfl
  case settarget n => exact relaysTraced_setTarget _ n h
  case switch upN downN => exact relaysTraced_switchInput upN downN h
  case ctltick => exact relaysTraced_ctlTick h
  case enterUp => exact relaysTraced_enterUp h
  case enterDown => exact relaysTraced_enterDown h
  case stop => exact relaysTraced_stop h
  all_goals exact h.congr (by simp) (by simp) (by simp)

/-- Settles O33: a step starts with an empty record, and every operation keeps its events leading
from the old relays to the new ones with never both on. -/
theorem relaysAreNeverBothEnergisedEvenTransiently :
    Obligations.RelaysAreNeverBothEnergisedEvenTransiently := by
  intro s hexclusive
  obtain ⟨t, hstep⟩ := step_next s
  have start : RelaysTraced (s.relayUp, s.relayDown) (fetchState s) :=
    (relaysTraced_clearObs hexclusive).congr (by simp) (by simp) (by simp)
  have traced := relaysTraced_exec (fetchState_obs s) start hstep
  exact ⟨t, hstep, traced.exclusive, traced.last⟩

end Sys2Proof.Machine

/-! # The invariants of R34 at reset and in every step -/

namespace Sys2Proof.Machine

/-- Settles O47: the reset state is a closed term, so each clause is read off it. -/
theorem resetStateHasTheTableValues : Obligations.ResetStateHasTheTableValues := by
  refine ⟨rfl, rfl, fun i _ => ?_, rfl, by decide, rfl, rfl, rfl, rfl, rfl, rfl⟩
  simp [State.reset]

/-- Settles O49: the heights are unknown, nothing moves, the counters are 0, nothing is pending. -/
theorem invariantHoldsAtReset : Obligations.InvariantHoldsAtReset where
  height := .inl rfl
  exclusive := by decide
  relays := ⟨rfl, rfl⟩
  manual := nofun
  counters := by decide
  published := .inl rfl
  lines := rfl

variable {s t : State}

/-! ## The invariant under each update -/

/-- The fields that `BlockInv` speaks of. -/
def invFields (s : State) :
    BitVec 8 × Motion × Mode × Bit × Bit × BitVec 10 × BitVec 8 × BitVec 23 × List Stimulus :=
  (s.curHeight, s.motion, s.mode, s.relayUp, s.relayDown, s.phase, s.lastPub, s.pubTimer,
    s.stimulus)

/-- Whatever leaves these fields as they are keeps the invariant. -/
theorem BlockInv.congr (h : BlockInv s) (hfields : invFields t = invFields s) : BlockInv t := by
  simp only [invFields, Prod.mk.injEq] at hfields
  obtain ⟨hcur, hmotion, hmode, hup, hdn, hphase, hlast, htimer, hlines⟩ := hfields
  constructor
  case height => exact hcur ▸ h.height
  case exclusive => rw [relaysExclusive, hup, hdn]; exact h.exclusive
  case relays => rw [relaysFollowMotion, hup, hdn, hmotion]; exact h.relays
  case manual => rw [manualMoves, hmode, hmotion]; exact h.manual
  case counters => rw [countersInRange, hphase, htimer]; exact h.counters
  case published => exact hlast ▸ h.published
  case lines => exact hlines ▸ h.lines

theorem blockInv_setPhase {phase : BitVec 10} (h : BlockInv s) (hphase : phase.toNat ≤ 999) :
    BlockInv { s with phase := phase } where
  height := h.height
  exclusive := h.exclusive
  relays := h.relays
  manual := h.manual
  counters := (countersInRange_iff _).mpr ⟨hphase, ((countersInRange_iff s).mp h.counters).2⟩
  published := h.published
  lines := h.lines

theorem blockInv_takeEdge (h : BlockInv s) : BlockInv (takeEdge s) :=
  blockInv_setPhase h (by simp)

theorem blockInv_tick (edge : Bit) (h : BlockInv s) : BlockInv (tick edge s) := by
  have hphase : (tick edge s).phase.toNat ≤ 999 := by
    rw [tick_phase]
    split
    · exact ((countersInRange_iff s).mp h.counters).1
    · exact nextPhase_le s.phase
  exact (blockInv_setPhase h hphase).congr rfl

theorem blockInv_setHeight {height : BitVec 8} (h : BlockInv s) (hlegal : heightLegal height) :
    BlockInv { s with curHeight := height } where
  height := hlegal
  exclusive := h.exclusive
  relays := h.relays
  manual := h.manual
  counters := h.counters
  published := h.published
  lines := h.lines

/-- A candidate that passes the filter is plausible (R140). -/
theorem blockInv_accept (c : Nat) (h : BlockInv s) : BlockInv (accept c s) := by
  rcases accept_cases c s with ⟨hmin, hmax, -, e⟩ | ⟨-, e⟩ | ⟨-, -, -, -, e⟩ <;> rw [e]
  · have hlegal : heightLegal (BitVec.ofNat 8 c) := by
      have hc : (BitVec.ofNat 8 c).toNat = c := by rw [BitVec.toNat_ofNat]; omega
      exact (heightLegal_iff _).mpr (.inr (by omega))
    exact (blockInv_setHeight h hlegal).congr rfl
  · exact h.congr rfl
  · exact h.congr rfl

theorem blockInv_decodeBit (P : Params) (bit : Bit) (h : BlockInv s) :
    BlockInv (decodeBit P bit s) := by
  rcases decodeBit_cases P bit s with ⟨-, e⟩ | ⟨-, e⟩ <;> rw [e]
  · exact blockInv_accept _ (h.congr rfl)
  · exact h.congr rfl

/-- The timer wraps at the check, and what is published is the height (R190). -/
theorem blockInv_publish (h : BlockInv s) : BlockInv (publish s) where
  height := h.height
  exclusive := h.exclusive
  relays := h.relays
  manual := h.manual
  counters := by
    obtain ⟨hphase, -⟩ := (countersInRange_iff s).mp h.counters
    refine (countersInRange_iff _).mpr ⟨hphase, ?_⟩
    simp only [publish_pubTimer, publishDue, Config.pubPasses_eq, decide_eq_true_eq]
    split
    · decide
    · rw [BitVec.toNat_add, BitVec.toNat_ofNat]
      omega
  published := by
    rw [publish_lastPub]
    split
    · exact h.height
    · exact h.published
  lines := h.lines

/-! ## The invariant under the movement controller -/

/-- A started motion has its own relay on alone, and any mode agrees with it (R151, R152). -/
theorem blockInv_enter (d : Direction) (mode : Mode) (h : BlockInv s) :
    BlockInv (enter d { s with mode := mode }) where
  height := by simpa using h.height
  exclusive := by cases d <;> simp [enter]
  relays := by cases d <;> exact ⟨rfl, rfl⟩
  manual := by cases d <;> exact fun _ => nofun
  counters := by simpa [countersInRange] using h.counters
  published := by simpa using h.published
  lines := by simpa using h.lines

/-- STOP keeps the invariant when the mode is Auto afterwards: ManualOverride does not stand still
(R34 item d). -/
theorem blockInv_stop_auto (h : BlockInv s) : BlockInv { stop s with mode := .auto } where
  height := h.height
  exclusive := by simp
  relays := ⟨rfl, rfl⟩
  manual := nofun
  counters := h.counters
  published := h.published
  lines := h.lines

theorem blockInv_stop (hauto : s.mode = .auto) (h : BlockInv s) : BlockInv (stop s) :=
  (blockInv_stop_auto h).congr (by simp [invFields, hauto])

theorem blockInv_startToward (n : Int) (h : BlockInv s) : BlockInv (startToward n s) :=
  h.congr rfl

theorem blockInv_noteCommand (r : Reason) (h : BlockInv s) : BlockInv (noteCommand r s) :=
  h.congr rfl

theorem blockInv_setTarget (P : Params) (n : Int) (h : BlockInv s) :
    BlockInv (setTarget P n s) := by
  rcases setTarget_cases P n s with ⟨-, e⟩ | ⟨-, -, -, e⟩ | ⟨-, -, e⟩ | ⟨hauto, -, e⟩ <;> rw [e]
  · exact blockInv_noteCommand _ h
  · exact blockInv_enter .up s.mode (blockInv_startToward n h)
  · exact blockInv_enter .down s.mode (blockInv_startToward n h)
  · exact blockInv_stop hauto (blockInv_noteCommand _ h)

theorem blockInv_ctlTick (h : BlockInv s) : BlockInv (ctlTick s) := by
  rcases ctlTick_cases s with ⟨hauto, -, -, e⟩ | ⟨hauto, -, -, e⟩ | ⟨-, -, e⟩ <;> rw [e]
  · exact blockInv_stop hauto h
  · exact blockInv_stop hauto h
  · exact h

theorem blockInv_switchInput (upN downN : Bit) (h : BlockInv s) :
    BlockInv (switchInput upN downN s) := by
  rcases switchInput_cases upN downN s with ⟨-, -, -, e⟩ | ⟨-, -, e⟩ | ⟨-, -, -, e⟩ | ⟨-, e⟩ <;>
    rw [e]
  · exact blockInv_stop_auto h
  · exact blockInv_enter .up .manualOverride h
  · exact blockInv_enter .down .manualOverride h
  · exact h

/-! ## The invariant under a pass, a reset and every line -/

theorem blockInv_clearObs (h : BlockInv s) : BlockInv (clearObs s) :=
  h.congr rfl

theorem blockInv_samplerStage (line : Bit) (h : BlockInv s) : BlockInv (samplerStage line s) := by
  have detected : BlockInv (detectEdge line s) := h.congr rfl
  unfold samplerStage
  dsimp only
  split
  · exact blockInv_tick _ (blockInv_takeEdge detected)
  · exact blockInv_tick _ detected

theorem blockInv_decoderStage (P : Params) (line : Bit) (h : BlockInv s) :
    BlockInv (decoderStage P line s) := by
  rw [decoderStage]
  split
  · exact blockInv_decodeBit P line (h.congr rfl)
  · exact h

theorem blockInv_commandStage (P : Params) (target : Target) (valid : Bit) (h : BlockInv s) :
    BlockInv (commandStage P target valid s) := by
  rw [commandStage]
  split
  · exact blockInv_setTarget P _ h
  · exact h

theorem blockInv_controlStage (upN downN : Bit) (h : BlockInv s) :
    BlockInv (controlStage upN downN s) := by
  rw [controlStage]
  split
  · exact blockInv_ctlTick (blockInv_switchInput upN downN h)
  · exact h

/-- The stages of R180 one after another. -/
theorem blockInv_runPass (P : Params) (line dn up : Bit) (target : Target) (valid : Bit)
    (h : BlockInv s) : BlockInv (runPass P line dn up target valid s) := by
  have sampled := blockInv_samplerStage line (blockInv_clearObs h)
  have decoded := blockInv_decoderStage P line sampled
  have commanded := blockInv_commandStage P target valid decoded
  have controlled := blockInv_controlStage up dn commanded
  exact (blockInv_publish controlled).congr rfl

/-- RESET gives every element but the pending lines the value it has at reset (R185). -/
theorem blockInv_resetBlock (h : BlockInv s) : BlockInv (resetBlock s) where
  height := invariantHoldsAtReset.height
  exclusive := invariantHoldsAtReset.exclusive
  relays := invariantHoldsAtReset.relays
  manual := invariantHoldsAtReset.manual
  counters := invariantHoldsAtReset.counters
  published := invariantHoldsAtReset.published
  lines := h.lines

/-- The wire bits of a frame are port levels (R79). -/
theorem blockInv_transmitFrame (P : Params) (raw : FieldByte) (tail : Bit) (h : BlockInv s) :
    BlockInv (transmitFrame P raw tail s) where
  height := h.height
  exclusive := h.exclusive
  relays := h.relays
  manual := h.manual
  counters := h.counters
  published := h.published
  lines := by
    have hwire : (wireFrame P.syncPattern raw tail).all Stimulus.wf = true := by
      simp [wireFrame, wireBit, Stimulus.wf]
    rw [transmitFrame_stimulus, List.all_append, hwire, h.lines, Bool.true_and]

/-- Every operation but the micro-operations keeps the invariant. -/
theorem blockInv_exec {i : Instr} (hline : i.isLine = true) (h : BlockInv s)
    (hexec : exec i s = .next t) : BlockInv t := by
  cases i <;> obtain rfl := Host.Outcome.next.inj hexec
  case frame raw tail => exact blockInv_transmitFrame _ raw tail h
  case edge => exact blockInv_takeEdge h
  case tick edge => exact blockInv_tick edge h
  case accept c => exact blockInv_accept c h
  case decode bit => exact blockInv_decodeBit _ bit h
  case settarget n => exact blockInv_setTarget _ n h
  case switch upN downN => exact blockInv_switchInput upN downN h
  case ctltick => exact blockInv_ctlTick h
  case publish => exact blockInv_publish h
  case pass line dn up target valid => exact blockInv_runPass _ line dn up target valid h
  case reset => exact blockInv_resetBlock h
  case enterUp | enterDown | stop => exact absurd hline (by decide)
  case sample | pushbit | checkmatch | extract =>
    exact h.congr rfl

/-- The operation of a step is a period's PASS or RESET, or a line that is admitted. -/
theorem fetchInstr_isLine (h : s.stimulus.all Stimulus.wf = true) :
    (fetchInstr s).isLine = true := by
  have period (rst : Bit) (piw : PortIn) : (decodePeriod rst piw).isLine = true := by
    cases rst <;> rfl
  unfold fetchInstr
  split
  case h_1 => exact period s.rst s.piw
  case h_2 rst piw _ _ _ => exact period rst piw
  case h_3 i rest hlines =>
    rw [hlines, List.all_cons, Bool.and_eq_true] at h
    exact (Bool.and_eq_true_iff.mp h.1).2

/-- Taking a line off the pending ones leaves admitted lines. -/
theorem fetchState_lines (h : s.stimulus.all Stimulus.wf = true) :
    (fetchState s).stimulus.all Stimulus.wf = true := by
  unfold fetchState
  split
  case h_1 => exact h
  case h_2 rst piw more rest hlines =>
    rw [hlines, List.all_cons, Bool.and_eq_true] at h
    cases more <;> simpa [leftOver, Stimulus.wf] using h.2
  case h_3 i rest hlines =>
    rw [hlines, List.all_cons, Bool.and_eq_true] at h
    exact h.2

theorem blockInv_fetchState (h : BlockInv s) : BlockInv (fetchState s) where
  height := by simpa using h.height
  exclusive := by simpa using h.exclusive
  relays := by simpa [relaysFollowMotion] using h.relays
  manual := by simpa [manualMoves] using h.manual
  counters := by simpa [countersInRange] using h.counters
  published := by simpa using h.published
  lines := fetchState_lines h.lines

/-- Settles O50: fetching keeps the invariant and yields no micro-operation, and every other
operation keeps it. -/
theorem everyStepKeepsTheInvariant : Obligations.EveryStepKeepsTheInvariant := by
  intro s h
  obtain ⟨t, hstep⟩ := step_next s
  exact ⟨t, hstep, blockInv_exec (fetchInstr_isLine h.lines) (blockInv_fetchState h) hstep⟩

end Sys2Proof.Machine

/-! # The writers of each element (R20) and the target (R26, R34 item h) -/

namespace Sys2Proof.Machine

/-- Settles O34: the operation's frame, field by field, from the lemmas about its meaning; a field
that the operation may write makes its clause true by the operation's name. -/
theorem everyElementHasOnlyItsWriters : Obligations.EveryElementHasOnlyItsWriters := by
  intro i s hline
  cases i with
  | frame raw tail => exact ⟨transmitFrame Config.params raw tail s, rfl, by simp⟩
  | edge => exact ⟨takeEdge s, rfl, by simp⟩
  | tick edge => exact ⟨tick edge s, rfl, by simp⟩
  | sample line => exact ⟨sampleLine line s, rfl, by simp⟩
  | pushbit bit => exact ⟨pushBit bit s, rfl, by simp⟩
  | checkmatch => exact ⟨checkMatch Config.params s, rfl, by simp⟩
  | extract => exact ⟨extract s, rfl, by simp⟩
  | accept c => exact ⟨accept c s, rfl, by simp⟩
  | settarget n => exact ⟨setTarget Config.params n s, rfl, by simp⟩
  | switch upN downN => exact ⟨switchInput upN downN s, rfl, by simp⟩
  | ctltick => exact ⟨ctlTick s, rfl, by simp⟩
  | publish => exact ⟨publish s, rfl, by simp⟩
  | enterUp => exact ⟨enterUp s, rfl, by simp⟩
  | enterDown => exact ⟨enterDown s, rfl, by simp⟩
  | stop => exact ⟨stop s, rfl, by simp⟩
  | decode bit => exact ⟨decodeBit Config.params bit s, rfl, by simp⟩
  | pass | reset => exact absurd hline (by simp [fillsAPeriod])

variable {s u : State}

/-! ## Automatic motion and its target -/

/-- A state of automatic motion. -/
def AutoMoving (s : State) : Prop := s.mode = .auto ∧ s.motion ≠ .stopped

/-- SETTARGET that ends in automatic motion has started it towards its operand (R154). -/
theorem setTarget_tgtHeight_of_autoMoving {P : Params} {n : Int}
    (h : AutoMoving (setTarget P n s)) :
    (setTarget P n s).tgtHeight = BitVec.ofInt 16 n := by
  obtain ⟨hauto, hmoves⟩ := h
  rcases setTarget_cases P n s with ⟨hmanual, e⟩ | ⟨-, -, -, e⟩ | ⟨-, -, e⟩ | ⟨-, -, e⟩
  · simp [hmanual] at hauto
  · rw [e]; rfl
  · rw [e]; rfl
  · exact absurd (by rw [e]; rfl) hmoves

/-- SWITCH that ends in automatic motion has done nothing: leaving the override stops the motion
and taking over leaves Auto (R156). -/
theorem switchInput_eq_self_of_autoMoving {upN downN : Bit}
    (h : AutoMoving (switchInput upN downN s)) : switchInput upN downN s = s := by
  obtain ⟨hauto, hmoves⟩ := h
  rcases switchInput_cases upN downN s with ⟨-, -, -, e⟩ | ⟨-, -, e⟩ | ⟨-, -, -, e⟩ | ⟨-, e⟩
  · exact absurd (by rw [e]; rfl) hmoves
  · simp [e] at hauto
  · simp [e] at hauto
  · exact e

/-- CTLTICK that ends in automatic motion has not stopped it (R155). -/
theorem ctlTick_eq_self_of_autoMoving (h : AutoMoving (ctlTick s)) : ctlTick s = s := by
  rcases ctlTick_cases s with ⟨-, -, -, e⟩ | ⟨-, -, -, e⟩ | ⟨-, -, e⟩
  · exact absurd (by rw [e]; rfl) h.2
  · exact absurd (by rw [e]; rfl) h.2
  · exact e

theorem controlStage_eq_self_of_autoMoving {upN downN : Bit}
    (h : AutoMoving (controlStage upN downN s)) : controlStage upN downN s = s := by
  rw [controlStage] at h ⊢
  split at h
  case isTrue hfired =>
    have hctl := ctlTick_eq_self_of_autoMoving h
    rw [hctl] at h
    rw [if_pos hfired, hctl, switchInput_eq_self_of_autoMoving h]
  case isFalse hfired => rw [if_neg hfired]

/-- Settles O44: the control stage did nothing, so motion and target are those that the command
left, and without a command those from before the pass. -/
theorem automaticMotionKeepsItsCommandsTarget :
    Obligations.AutomaticMotionKeepsItsCommandsTarget := by
  intro line dn up target valid s
  refine ⟨runPass Config.params line dn up target valid s, rfl, fun hauto hmoves => ?_⟩
  simp only [runPass, driveOutputs_mode, publish_mode, driveOutputs_motion, publish_motion,
    driveOutputs_tgtHeight, publish_tgtHeight] at hauto hmoves ⊢
  have hcontrol := controlStage_eq_self_of_autoMoving ⟨hauto, hmoves⟩
  rw [hcontrol] at hauto hmoves ⊢
  cases valid with
  | true =>
    refine .inl ⟨rfl, ?_⟩
    have hset := setTarget_tgtHeight_of_autoMoving ⟨hauto, hmoves⟩
    simpa [commandStage, sext16] using hset
  | false =>
    refine .inr ⟨rfl, ?_⟩
    simpa [commandStage, samplerStage_eq] using hauto

/-! ## The idle target -/

/-- The state with another target. -/
def withTarget (x : Target) (s : State) : State := { s with tgtHeight := x }

/-- Two states that differ at most in the target, and not even there in automatic motion. -/
def SameButIdleTarget (s u : State) : Prop :=
  ∃ x, u = withTarget x s ∧ (AutoMoving s → x = s.tgtHeight)

theorem sameButIdleTarget_withTarget (x : Target) (hidle : ¬AutoMoving s) :
    SameButIdleTarget s (withTarget x s) :=
  ⟨x, rfl, fun h => absurd h hidle⟩

theorem SameButIdleTarget.refl (s : State) : SameButIdleTarget s s :=
  ⟨s.tgtHeight, rfl, fun _ => rfl⟩

/-- An operation keeps the relation when it does so from idle states. -/
theorem SameButIdleTarget.lift {f : State → State}
    (hf : ∀ s x, ¬AutoMoving s → SameButIdleTarget (f s) (f (withTarget x s)))
    (h : SameButIdleTarget s u) : SameButIdleTarget (f s) (f u) := by
  obtain ⟨x, rfl, hx⟩ := h
  by_cases hauto : AutoMoving s
  · rw [hx hauto]
    exact .refl (f s)
  · exact hf s x hauto

/-- An operation that neither reads the target nor writes target, mode and motion. -/
structure IgnoresTarget (f : State → State) : Prop where
  commutes : ∀ s x, f (withTarget x s) = withTarget x (f s)
  mode : ∀ s, (f s).mode = s.mode
  motion : ∀ s, (f s).motion = s.motion

theorem IgnoresTarget.sameButIdleTarget {f : State → State} (hf : IgnoresTarget f)
    (h : SameButIdleTarget s u) : SameButIdleTarget (f s) (f u) := by
  refine h.lift fun r x hidle => ?_
  rw [hf.commutes]
  exact sameButIdleTarget_withTarget x (by rwa [AutoMoving, hf.mode, hf.motion])

theorem accept_withTarget (c : Nat) (x : Target) (s : State) :
    accept c (withTarget x s) = withTarget x (accept c s) := by
  dsimp only [accept, withTarget]
  split <;> rfl

theorem decodeBit_withTarget (P : Params) (bit : Bit) (x : Target) (s : State) :
    decodeBit P bit (withTarget x s) = withTarget x (decodeBit P bit s) := by
  have hcheck : checkMatch P (pushBit bit (withTarget x s))
      = withTarget x (checkMatch P (pushBit bit s)) := rfl
  have hwindow (r : State) : (withTarget x r).window = r.window := rfl
  have hextract (r : State) : extract (withTarget x r) = withTarget x (extract r) := rfl
  unfold decodeBit
  dsimp only
  rw [hcheck, hwindow, hextract, accept_withTarget]
  split <;> rfl

theorem ignoresTarget_samplerStage (line : Bit) :
    IgnoresTarget fun s => samplerStage line (clearObs s) where
  commutes s x := by simp only [samplerStage_eq]; rfl
  mode s := by simp [samplerStage_eq]
  motion s := by simp [samplerStage_eq]

theorem ignoresTarget_decoderStage (P : Params) (line : Bit) :
    IgnoresTarget (decoderStage P line) where
  commutes s x := by
    have hsample : sampleLine line (withTarget x s) = withTarget x (sampleLine line s) := rfl
    rw [decoderStage, decoderStage, hsample, decodeBit_withTarget]
    exact (apply_ite (withTarget x) _ _ _).symm
  mode s := by simp
  motion s := by simp

theorem ignoresTarget_publish : IgnoresTarget fun s => driveOutputs (publish s) where
  commutes _ _ := rfl
  mode _ := rfl
  motion _ := rfl

/-- SETTARGET overwrites the target, but for a rejected command, which leaves the state idle
(R154). -/
theorem sameButIdleTarget_setTarget (P : Params) (n : Int) (h : SameButIdleTarget s u) :
    SameButIdleTarget (setTarget P n s) (setTarget P n u) := by
  refine h.lift fun r x hidle => ?_
  have harm : commandArm P.maxHeight (withTarget x r).mode (withTarget x r).cur n
      = commandArm P.maxHeight r.mode r.cur n := rfl
  unfold setTarget
  rw [harm]
  split
  case h_1 => exact sameButIdleTarget_withTarget x hidle
  case h_2 => exact .refl _
  case h_3 => exact .refl _
  case h_4 => exact .refl _

/-- SWITCH snaps the target, or enters or stays in ManualOverride, or does nothing (R156). -/
theorem sameButIdleTarget_switchInput (upN downN : Bit) (h : SameButIdleTarget s u) :
    SameButIdleTarget (switchInput upN downN s) (switchInput upN downN u) := by
  refine h.lift fun r x hidle => ?_
  have hmode : (withTarget x r).mode = r.mode := rfl
  unfold switchInput
  rw [hmode]
  split
  case h_1 =>
    split
    · exact .refl _
    · exact sameButIdleTarget_withTarget x hidle
  case h_2 =>
    split
    case h_1 d _ =>
      have hmanual : ¬AutoMoving (enter d { r with mode := .manualOverride }) := by
        simp [AutoMoving]
      cases d <;> exact sameButIdleTarget_withTarget x hmanual
    case h_2 => exact sameButIdleTarget_withTarget x hidle

/-- From an idle state CTLTICK does nothing, whatever the target is (R155). -/
theorem ctlTick_eq_self_of_idle (hidle : ¬AutoMoving s) : ctlTick s = s := by
  rcases ctlTick_cases s with ⟨hauto, hup, -⟩ | ⟨hauto, hdn, -⟩ | ⟨-, -, e⟩
  · exact absurd ⟨hauto, by simp [hup]⟩ hidle
  · exact absurd ⟨hauto, by simp [hdn]⟩ hidle
  · exact e

theorem sameButIdleTarget_ctlTick (h : SameButIdleTarget s u) :
    SameButIdleTarget (ctlTick s) (ctlTick u) := by
  refine h.lift fun r x hidle => ?_
  have hidle' : ¬AutoMoving (withTarget x r) := hidle
  rw [ctlTick_eq_self_of_idle hidle, ctlTick_eq_self_of_idle hidle']
  exact sameButIdleTarget_withTarget x hidle

theorem SameButIdleTarget.obs (h : SameButIdleTarget s u) : u.obs = s.obs := by
  obtain ⟨x, rfl, -⟩ := h
  rfl

theorem sameButIdleTarget_commandStage (P : Params) (target : Target) (valid : Bit)
    (h : SameButIdleTarget s u) :
    SameButIdleTarget (commandStage P target valid s) (commandStage P target valid u) := by
  cases valid with
  | true => exact sameButIdleTarget_setTarget P _ h
  | false => exact h

theorem sameButIdleTarget_controlStage (upN downN : Bit) (h : SameButIdleTarget s u) :
    SameButIdleTarget (controlStage upN downN s) (controlStage upN downN u) := by
  rw [controlStage, controlStage, h.obs]
  split
  · exact sameButIdleTarget_ctlTick (sameButIdleTarget_switchInput upN downN h)
  · exact h

theorem sameButIdleTarget_runPass (P : Params) (line dn up : Bit) (target : Target) (valid : Bit)
    (h : SameButIdleTarget s u) :
    SameButIdleTarget (runPass P line dn up target valid s)
      (runPass P line dn up target valid u) := by
  have sampled := (ignoresTarget_samplerStage line).sameButIdleTarget h
  have decoded := (ignoresTarget_decoderStage P line).sameButIdleTarget sampled
  have commanded := sameButIdleTarget_commandStage P target valid decoded
  have controlled := sameButIdleTarget_controlStage up dn commanded
  exact ignoresTarget_publish.sameButIdleTarget controlled

/-- Settles O45: the two start states are related, the pass keeps the relation, and related states
agree on everything but an idle target. -/
theorem idleTargetHasNoEffectOnAnyOutput : Obligations.IdleTargetHasNoEffectOnAnyOutput := by
  intro line dn up target valid s x hidle
  have related := sameButIdleTarget_runPass Config.params line dn up target valid
    (sameButIdleTarget_withTarget x hidle)
  obtain ⟨y, hsame, hy⟩ := related
  refine ⟨runPass Config.params line dn up target valid s,
    withTarget y (runPass Config.params line dn up target valid s), rfl, ?_, rfl, rfl, rfl,
    fun hauto hmoves => hy ⟨hauto, hmoves⟩⟩
  exact congrArg Host.Outcome.next hsame

end Sys2Proof.Machine

/-! # BitWindow as a ring with a cursor (20_memory.md R64, 42_frame_decoder.md R128) -/

namespace Sys2Proof.Machine

/-- Positions in the ring are added modulo 32 (R128). -/
theorem ringPosition_add (i j : Fin Config.windowSize) : (i + j).val = (i.val + j.val) % 32 :=
  Fin.val_add i j

/-- The position after another one, modulo 32 (R128). -/
theorem ringPosition_succ (i : Fin Config.windowSize) : (i + 1).val = (i.val + 1) % 32 :=
  ringPosition_add i 1

/-- After a push the last logical cell is the new bit, which stands where the oldest cell stood, and
every other logical cell is the next one of before. -/
theorem ringCell_ringPush (b : Bit) (r : Ring) (i : Fin Config.windowSize) :
    ringCell (ringPush b r) i = if i.val < 31 then ringCell r (i + 1) else b := by
  have hi : i.val < 32 := i.isLt
  have hc : r.cursor.val < 32 := r.cursor.isLt
  have hposition : r.cursor + 1 + i = r.cursor + (i + 1) := by rw [add_assoc, add_comm 1 i]
  have hval : (r.cursor + (i + 1)).val = (r.cursor.val + (i.val + 1) % 32) % 32 := by
    rw [ringPosition_add, ringPosition_succ]
  simp only [ringCell, ringPush, hposition, Vector.get_eq_getElem]
  split
  case isTrue hlt => exact Vector.getElem_set_ne _ _ (by omega)
  case isFalse hlast =>
    have hwrap : (r.cursor + (i + 1)).val = r.cursor.val := by omega
    simp [hwrap]

/-- A push into the ring shows the window's shift of R120. -/
theorem ringShows_ringPush {r : Ring} {w : Window} (b : Bit) (h : ringShows r w) :
    ringShows (ringPush b r) (shiftIn b w) := by
  intro i
  rw [ringCell_ringPush, cell, shiftIn_getLsbD b w i i.isLt]
  split
  case isTrue hlt =>
    have hnext : (i + 1).val = i.val + 1 := by
      rw [ringPosition_succ, Nat.mod_eq_of_lt (by omega)]
    rw [h (i + 1), hnext, cell]
  case isFalse => rfl

/-- Settles O22: PUSHBIT shifts the window, and the ring's push shows that shift. -/
theorem ringBufferShowsTheSameWindow : Obligations.RingBufferShowsTheSameWindow := by
  intro bit r s hshows
  exact ⟨pushBit bit s, rfl, ringShows_ringPush bit hshows⟩

end Sys2Proof.Machine

/-! # The end of an automatic motion (20_memory.md R62, R155, R181) -/

namespace Sys2Proof.Machine

variable {s : State}

/-- CTLTICK stops a motion up from within 1 below the target on (R155). -/
theorem ctlTick_of_movingUp (hauto : s.mode = .auto) (hup : s.motion = .movingUp) :
    ctlTick s =
      if (s.curHeight.toNat : Int) + 1 ≥ s.tgtHeight.toInt then stop s else s := by
  simp [ctlTick, targetReached, State.cur, State.tgt, sext16, hauto, hup]

/-- CTLTICK stops a motion down from within 2 above the target on (R155). -/
theorem ctlTick_of_movingDown (hauto : s.mode = .auto) (hdown : s.motion = .movingDown) :
    ctlTick s =
      if (s.curHeight.toNat : Int) - 2 ≤ s.tgtHeight.toInt then stop s else s := by
  simp [ctlTick, targetReached, State.cur, State.tgt, sext16, hauto, hdown]

/-- With both switches released SWITCH does nothing in Auto (R156). -/
theorem switchInput_released (hauto : s.mode = .auto) : switchInput true true s = s := by
  simp [switchInput, hauto, switchDirection, active]

/-- The state before the control stage of a pass without a command: sampled and decoded. -/
def received (P : Params) (line : Bit) (s : State) : State :=
  decoderStage P line (samplerStage line (clearObs s))

@[simp] theorem received_mode (P : Params) (line : Bit) (s : State) :
    (received P line s).mode = s.mode := by
  simp [received, samplerStage_eq]

@[simp] theorem received_motion (P : Params) (line : Bit) (s : State) :
    (received P line s).motion = s.motion := by
  simp [received, samplerStage_eq]

@[simp] theorem received_tgtHeight (P : Params) (line : Bit) (s : State) :
    (received P line s).tgtHeight = s.tgtHeight := by
  simp [received, samplerStage_eq]

@[simp] theorem received_obs_events (P : Params) (line : Bit) (s : State) :
    (received P line s).obs.events = [] := by
  simp [received, samplerStage_eq, Observation.blank]

@[simp] theorem received_obs_fired (P : Params) (line : Bit) (s : State) :
    (received P line s).obs.fired = firedFlag (line != s.linePrev) s.phase := by
  simp [received, samplerStage_eq]

/-- A firing pass in Auto with both switches released and no command is, before the outputs, CTLTICK
on what was received (R180, R181). -/
theorem runPass_of_released {P : Params} {line : Bit} (target : Target)
    (hline : line = s.linePrev) (hphase : 1000 ≤ s.phase.toNat + 1) (hauto : s.mode = .auto) :
    runPass P line true true target false s
      = driveOutputs (publish (ctlTick (received P line s))) := by
  have hfired : (received P line s).obs.fired = true := by
    simp [firedFlag_eq, hline, hphase]
  have hcontrol : controlStage true true (received P line s) = ctlTick (received P line s) := by
    rw [controlStage, if_pos hfired, switchInput_released (by simp [hauto])]
  rw [← hcontrol]
  rfl

/-- Settles O40: the pass is CTLTICK on what was received, whose height is that of the pass; each
clause is one branch of CTLTICK's comparison. -/
theorem automaticMotionEndsOnTheHeightOfThePass :
    Obligations.AutomaticMotionEndsOnTheHeightOfThePass := by
  intro line target s hline hphase hauto
  refine ⟨_, rfl, ?_⟩
  rw [runPass_of_released target hline hphase hauto]
  have hmode : (received Config.params line s).mode = .auto := by simp [hauto]
  simp only [driveOutputs_mode, publish_mode, ctlTick_mode, driveOutputs_curHeight,
    publish_curHeight, ctlTick_curHeight]
  refine ⟨hmode, fun hup hreached => ?_, fun hup hshort => ?_, fun hdown hreached => ?_,
    fun hdown hshort => ?_⟩
  · rw [ctlTick_of_movingUp hmode (by simp [hup]), received_tgtHeight,
      if_pos hreached]
    simp
  · rw [ctlTick_of_movingUp hmode (by simp [hup]), received_tgtHeight,
      if_neg (not_le.mpr hshort)]
    simp [hup]
  · rw [ctlTick_of_movingDown hmode (by simp [hdown]), received_tgtHeight,
      if_pos hreached]
    simp
  · rw [ctlTick_of_movingDown hmode (by simp [hdown]), received_tgtHeight,
      if_neg (not_le.mpr hshort)]
    simp [hdown]

end Sys2Proof.Machine

/-! # Code words and their instructions (30_encoding.md R70, R73, R76, R80) -/

namespace Sys2Proof

/-! ## A frame's parts (R70) -/

theorem frameCells_pattern (p : SyncPattern) (raw : FieldByte) (tail : Bit) :
    (frameCells p raw tail).extractLsb' 0 23 = p := by
  ext i hi
  have hcell := frameCells_getLsbD p raw tail i (by omega)
  simpa [BitVec.getLsbD_eq_getElem, hi] using hcell

theorem frameCells_field (p : SyncPattern) (raw : FieldByte) (tail : Bit) :
    (frameCells p raw tail).extractLsb' 23 8 = raw := by
  ext i hi
  have hcell := frameCells_getLsbD p raw tail (23 + i) (by omega)
  have hfield : 23 + i < 31 := by omega
  simpa [hfield, BitVec.getLsbD_eq_getElem, hi] using hcell

theorem frameCells_tail (p : SyncPattern) (raw : FieldByte) (tail : Bit) :
    (frameCells p raw tail).getLsbD 31 = tail :=
  frameCells_getLsbD p raw tail 31 (by decide)

/-- Every window is the frame of its own parts. -/
theorem frameCells_of_parts (w : Window) :
    frameCells (w.extractLsb' 0 23) (w.extractLsb' 23 8) (w.getLsbD 31) = w := by
  apply BitVec.eq_of_getLsbD_eq
  intro i (hi : i < 32)
  rw [frameCells_getLsbD _ _ _ i hi]
  split
  case isTrue hpattern => simp [hpattern]
  case isFalse hpattern =>
    split
    case isTrue hfield =>
      have hlt : i - 23 < 8 := by omega
      have hindex : 23 + (i - 23) = i := by omega
      simp [hlt, hindex]
    case isFalse hfield =>
      have hlast : i = 31 := by omega
      rw [hlast]

theorem decodeWire_frameCells (p : SyncPattern) (raw : FieldByte) (tail : Bit) :
    decodeWire p (frameCells p raw tail) = .ok (.frame raw tail) := by
  rw [decodeWire_eq, if_pos (frameCells_pattern p raw tail), frameCells_field, frameCells_tail]

/-- What the frame decoder accepts, and what it answers (R70). -/
theorem decodeWire_eq_ok_iff (p : SyncPattern) (w : Window) (i : Instr) :
    decodeWire p w = .ok i ↔
      w.extractLsb' 0 23 = p ∧ i = .frame (w.extractLsb' 23 8) (w.getLsbD 31) := by
  rw [decodeWire_eq]
  split
  case isTrue hpattern => simp [hpattern, eq_comm]
  case isFalse hpattern => simp [hpattern]

/-! ## A port word's parts (R73) -/

/-- Every port word is the encoding of its own fields. -/
theorem encodePort_of_fields (w : PortIn) :
    encodePort (portLine w) (portDownN w) (portUpN w) (portTarget w) (portValid w) = w := by
  have bitValue (i : Nat) : (w.getLsbD i).toNat = w.toNat / 2 ^ i % 2 := by
    rw [← BitVec.testBit_toNat, Nat.toNat_testBit]
  have hw := w.isLt
  apply BitVec.eq_of_toNat_eq
  simp only [encodePort_toNat, portLine, portDownN, portUpN, portValid, bitValue, portTarget_toNat]
  omega

theorem decodeCommand_encodePort (line dn up : Bit) (target : Target) :
    decodeCommand (encodePort line dn up target true) = .ok (.settarget target.toInt) := by
  simp [decodeCommand]

/-! ## Round trips -/

/-- Settles O1: for each operation with a code word, the decoder reads the encoded fields back; the
operand of SETTARGET is within its 16 bits by well-formedness. -/
theorem encodedInstructionDecodesToItself : Obligations.EncodedInstructionDecodesToItself := by
  intro p i c hwf hcode
  cases i <;> simp only [encode, Option.some.injEq, reduceCtorEq] at hcode <;> subst hcode
  case frame raw tail => exact decodeWire_frameCells p raw tail
  case settarget n =>
    have hn : (BitVec.ofInt 16 n).toInt = n :=
      Machine.toInt_ofInt_target n ((settarget_wf_iff n).mp hwf)
    rw [decode, decodeCommand_encodePort, hn]
  case pass line dn up target valid =>
    rw [decode, decodePeriod_encodePort]
  case reset => rfl

/-- Settles O2: the decoded fields are those of the word, and a word is the encoding of its own
fields. -/
theorem decodedPassAndFrameEncodeToTheirWord :
    Obligations.DecodedPassAndFrameEncodeToTheirWord := by
  intro p i
  constructor
  · intro piw hdecode
    have hi : decodePeriod false piw = i := Except.ok.inj hdecode
    subst hi
    exact congrArg (some ∘ CodeWord.period false) (encodePort_of_fields piw)
  · intro cells hdecode
    obtain ⟨hpattern, rfl⟩ := (decodeWire_eq_ok_iff p cells i).mp hdecode
    rw [encode, ← hpattern, frameCells_of_parts]

/-! ## Table words (R76) -/

/-- The number of a port word stands for a command or a period, by its bit 19 (log 5). -/
theorem tableWord_port {w : Nat} (hw : w < 2 ^ 20) :
    tableWord 24 w = .ok (if portValid (BitVec.ofNat 20 w) then .command (BitVec.ofNat 20 w)
      else .period false (BitVec.ofNat 20 w)) := by
  have hvalid : portValid (BitVec.ofNat 20 w) = w.testBit 19 := by
    rw [portValid, BitVec.getLsbD_ofNat]
    rfl
  rw [tableWord, if_neg (by decide), if_pos (by decide), if_pos hw, hvalid]
  split <;> rfl

/-- The instruction that the number of a port word is read as (log 5). -/
theorem decodeTableWord_port {w : Nat} (hw : w < 2 ^ 20) :
    decodeTableWord 24 w = some (if portValid (BitVec.ofNat 20 w)
      then .settarget (portTarget (BitVec.ofNat 20 w)).toInt
      else decodePeriod false (BitVec.ofNat 20 w)) := by
  rw [decodeTableWord, decodeTable, tableWord_port hw]
  cases hvalid : portValid (BitVec.ofNat 20 w) with
  | true => simp [decode, decodeCommand, hvalid]
  | false => rfl

/-- The operand of a port word as a signed number (R80). -/
theorem portTarget_toInt (w : PortIn) :
    (portTarget w).toInt = if w.toNat / 8 % 65536 < 32768 then ((w.toNat / 8 % 65536 : Nat) : Int)
      else ((w.toNat / 8 % 65536 : Nat) : Int) - 65536 := by
  have hcond : (portTarget w).toInt = if 2 * (portTarget w).toNat < 65536
      then ((portTarget w).toNat : Int) else ((portTarget w).toNat : Int) - 65536 :=
    BitVec.toInt_eq_toNat_cond _
  rw [hcond, portTarget_toNat]
  split <;> split <;> omega

/-- The fields of a port word without a command, as arithmetic on its number (R73). -/
theorem decodePeriod_of_no_command {w : PortIn} (hclear : portValid w = false) :
    decodePeriod false w = .pass (decide (w.toNat % 2 = 1)) (decide (w.toNat / 2 % 2 = 1))
      (decide (w.toNat / 4 % 2 = 1)) (BitVec.ofNat 16 (w.toNat / 8 % 65536)) false := by
  have htarget : portTarget w = BitVec.ofNat 16 (w.toNat / 8 % 65536) := by
    rw [← portTarget_toNat, BitVec.ofNat_toNat, BitVec.setWidth_eq]
  simp only [decodePeriod, portLine, portDownN, portUpN, portBit, htarget, hclear,
    Bool.false_eq_true, if_false, Nat.pow_zero, Nat.div_one, Nat.pow_one, Nat.reducePow]

/-- Settles O3: the number's bit 19 selects the row; its fields are read off as arithmetic. -/
theorem commandBitSelectsSettarget : Obligations.CommandBitSelectsSettarget := by
  intro w hw
  have htoNat : (BitVec.ofNat 20 w).toNat = w := by rw [BitVec.toNat_ofNat]; omega
  have hvalid : portValid (BitVec.ofNat 20 w) = decide (w / 2 ^ 19 % 2 = 1) := by
    rw [portValid, portBit, htoNat]
  rw [decodeTableWord_port hw]
  constructor
  · intro hset
    have hcommand : portValid (BitVec.ofNat 20 w) = true := by rw [hvalid, hset]; rfl
    refine ⟨_, by rw [if_pos hcommand], ?_⟩
    rw [portTarget_toInt, htoNat]
  · intro hclear
    have hpass : portValid (BitVec.ofNat 20 w) = false := by rw [hvalid, hclear]; rfl
    rw [hpass, decodePeriod_of_no_command hpass, htoNat]
    rfl

/-- Settles O4: every word is a closed number, which the decoder evaluates. -/
theorem portWordsOfTheSpecDecode : Obligations.PortWordsOfTheSpecDecode := by
  refine ⟨?idle, ?lineHigh, ?upPressed, ?downPressed, ?target100, ?minusOne, ?lowest, ?period,
    ?reset⟩
  all_goals decide

end Sys2Proof

/-! # A frame in the window and on the wire (30_encoding.md R70 to R72, R79) -/

namespace Sys2Proof.Machine

/-! ## The window's pattern and field -/

/-- Cells 0 to 22 are the pattern exactly on a full match (R122). -/
theorem extractPattern_eq_iff (p : SyncPattern) (w : Window) :
    w.extractLsb' 0 23 = p ↔ fullMatch p w = true := by
  rw [fullMatch_iff]
  constructor
  · rintro rfl j hj
    simp [hj]
  · intro h
    apply BitVec.eq_of_getLsbD_eq
    intro j (hj : j < 23)
    simpa [hj] using h j hj

/-- Settles O5: the decoder tests the cells that the count of 23 stands for. -/
theorem frameDecodesExactlyOnAFullMatch : Obligations.FrameDecodesExactlyOnAFullMatch := by
  intro s
  have hdecodes : (∃ i, decode Config.syncPattern (.wire s.window) = .ok i) ↔
      s.window.extractLsb' 0 23 = Config.syncPattern := by
    simp [decode, decodeWire_eq_ok_iff]
  have hcounts : (∃ t, exec .checkmatch s = .next t ∧ t.obs.matchCount = some 23) ↔
      matchCount Config.syncPattern s.window = 23 := by
    simp [exec, execCheckmatch]
  rw [hdecodes, hcounts, extractPattern_eq_iff, matchCount_eq_iff]

/-- Bit `k` of a number read least-significant bit first is the list's element `k` (R52). -/
theorem lsbFirst_testBit (l : List Bit) (k : Nat) : (lsbFirst l).testBit k = l.getD k false := by
  induction l generalizing k with
  | nil => simp [lsbFirst]
  | cons b bs ih =>
    have hcons : lsbFirst (b :: bs) = Nat.bit b (lsbFirst bs) := by
      rw [Nat.bit_val, lsbFirst, Nat.add_comm]
    cases k with
    | zero => simp [hcons]
    | succ k => rw [hcons, Nat.testBit_bit_succ, ih, List.getD_cons_succ]

/-- Bit `k` of the raw field is cell `23 + k` (R72, R123). -/
theorem rawField_getLsbD (w : Window) (k : Nat) (hk : k < 8) :
    (rawField w).getLsbD k = w.getLsbD (23 + k) := by
  have hwrap : (23 + k) % 32 = 23 + k := Nat.mod_eq_of_lt (by omega)
  rw [rawField, BitVec.getLsbD_ofNat, lsbFirst_testBit]
  simp [memRead, cell, hk, hwrap]

/-- Settles O18: EXTRACT complements the field's bits, and the transmitter has complemented them
before (R72, R123). -/
theorem transmittedHeightIsExtracted : Obligations.TransmittedHeightIsExtracted := by
  intro h s hfield
  refine ⟨extract s, rfl, ?_⟩
  have hcandidate : candidateOf (rawField s.window) = h := by
    apply BitVec.eq_of_getLsbD_eq
    intro k (hk : k < 8)
    rw [candidateOf_eq_not, BitVec.getLsbD_not, rawField_getLsbD s.window k hk, hfield k hk]
    simp [hk]
  rw [extract_obs, hcandidate]

/-! ## The wire bits of a frame -/

/-- A wire bit is 1000 periods of the idle word with the bit on the line (R79). -/
theorem wireBit_eq (b : Bit) : wireBit b = .drive false (if b then 7#20 else 6#20) 999 := by
  cases b <;> rfl

/-- Settles O20: wire bit `i` carries cell `i` of the frame. -/
theorem framePresentsItsWireBits : Obligations.FramePresentsItsWireBits := by
  intro raw tail s
  refine ⟨wireFrame Config.syncPattern raw tail, rfl, by simp [wireFrame], fun i hi => ?_⟩
  refine ⟨_, ?_, frameCells_getLsbD Config.syncPattern raw tail i hi⟩
  simp [wireFrame, hi, wireBit_eq, cell]

/-- The window after a list of bits has been pushed, the first one first. -/
def pushAll (bits : List Bit) (w : Window) : Window := bits.foldl (fun v b => shiftIn b v) w

/-- The pushed bits stand in the newest cells, after what is left of the old ones. -/
theorem pushAll_getLsbD (bits : List Bit) (w : Window) (hlen : bits.length ≤ 32) (i : Nat)
    (hi : i < 32) :
    (pushAll bits w).getLsbD i = if i + bits.length < 32 then w.getLsbD (i + bits.length)
      else bits.getD (i + bits.length - 32) false := by
  induction bits generalizing w with
  | nil => simp [pushAll, hi]
  | cons b bs ih =>
    rw [List.length_cons] at hlen ⊢
    have hpush : pushAll (b :: bs) w = pushAll bs (shiftIn b w) := rfl
    rw [hpush, ih (shiftIn b w) (by omega)]
    by_cases hold : i + bs.length < 31
    · rw [if_pos (by omega), if_pos (by omega), shiftIn_getLsbD _ _ _ (by omega), if_pos hold,
        Nat.add_assoc]
    · by_cases hfirst : i + bs.length = 31
      · rw [if_pos (by omega), if_neg (by omega), shiftIn_getLsbD _ _ _ (by omega), if_neg hold]
        simp [← Nat.add_assoc, hfirst]
      · have hnext : i + (bs.length + 1) - 32 = i + bs.length - 32 + 1 := by omega
        rw [if_neg (by omega), if_neg (by omega), hnext, List.getD_cons_succ]

/-- The cells of a window, oldest first. -/
def cellList (w : Window) : List Bit := (List.range Config.windowSize).map (cell w)

/-- Pushing 32 bits fills the window, whatever it held. -/
theorem pushAll_cellList (v w : Window) : pushAll (cellList v) w = v := by
  apply BitVec.eq_of_getLsbD_eq
  intro i (hi : i < 32)
  have hlen : (cellList v).length = 32 := by simp [cellList]
  rw [pushAll_getLsbD _ _ hlen.le i hi, hlen, if_neg (by omega)]
  simp [cellList, cell, hi]

theorem wireFrame_eq (p : SyncPattern) (raw : FieldByte) (tail : Bit) :
    wireFrame p raw tail = (cellList (frameCells p raw tail)).map wireBit := by
  rw [wireFrame, cellList, List.map_map]
  rfl

/-! ## The reception of a wire bit by a locked sampler (R105) -/

/-- What the sampler and the window are in the middle of a bit, and what is still to come. -/
structure Receiving (line : Bit) (phase : Nat) (window : Window) (lines : List Stimulus)
    (s : State) : Prop where
  linePrev : s.linePrev = line
  phase : s.phase.toNat = phase
  window : s.window = window
  stimulus : s.stimulus = lines

variable {s : State} {piw : PortIn} {phase n : Nat} {w : Window} {rest : List Stimulus}

/-- One of the periods with the same levels: what a pass does to the sampler and the window. -/
theorem step_hold (h : s.stimulus = holdFor (n + 1) piw ++ rest) :
    ∃ t, step s = .next t ∧ Receiving (portLine piw)
      (if portLine piw != s.linePrev then 500#10 else nextPhase s.phase).toNat
      (if firedFlag (portLine piw != s.linePrev) s.phase then shiftIn (portLine piw) s.window
        else s.window) (holdFor n piw ++ rest) t := by
  have hfetch : fetchState s = clearObs { s with
      rst := false, piw := piw, stimulus := holdFor n piw ++ rest } := by
    unfold fetchState
    rw [h]
    cases n <;> rfl
  refine ⟨_, step_drive h, runPass_linePrev .., ?_, ?_, ?_⟩
  · rw [runPass_phase, hfetch]; rfl
  · rw [runPass_window, hfetch]; rfl
  · rw [runPass_stimulus, hfetch]; rfl

/-- The first pass of a bit of a locked sampler ends at the middle phase, with or without an
edge. -/
theorem step_firstOfBit (hphase : s.phase.toNat = 499)
    (h : s.stimulus = holdFor (n + 1) piw ++ rest) :
    ∃ t, step s = .next t ∧
      Receiving (portLine piw) 500 s.window (holdFor n piw ++ rest) t := by
  obtain ⟨t, hstep, ht⟩ := step_hold h
  refine ⟨t, hstep, ht.linePrev, ?_, ?_, ht.stimulus⟩
  · rw [ht.phase]
    split
    · rfl
    · rw [nextPhase_toNat, hphase]; rfl
  · rw [ht.window, firedFlag_eq, hphase]
    simp

/-- Without an edge the passes up to phase 999 only count. -/
theorem run_count (k : Nat) (hend : phase + k ≤ 999)
    (h : Receiving (portLine piw) phase w (holdFor (n + k) piw ++ rest) s) :
    ∃ t, Host.Core.run Sys2Proof.core k s = .next t ∧
      Receiving (portLine piw) (phase + k) w (holdFor n piw ++ rest) t := by
  induction k generalizing s phase with
  | zero => exact ⟨s, rfl, h⟩
  | succ k ih =>
    obtain ⟨u, hstep, hu⟩ := step_hold h.stimulus
    have hcounted : Receiving (portLine piw) (phase + 1) w (holdFor (n + k) piw ++ rest) u := by
      refine ⟨hu.linePrev, ?_, ?_, hu.stimulus⟩
      · rw [hu.phase, h.linePrev, bne_self_eq_false, if_neg (by decide), nextPhase_toNat, h.phase,
          if_neg (by omega)]
      · rw [hu.window, h.linePrev, bne_self_eq_false, firedFlag_eq, h.phase,
          decide_eq_false (by omega)]
        exact h.window
    obtain ⟨t, hrun, ht⟩ := ih (by omega) hcounted
    refine ⟨t, by rw [run_of_step k hstep, hrun], ?_⟩
    rwa [Nat.add_right_comm, Nat.add_assoc] at ht

/-- Without an edge the pass at phase 999 samples the line into the window. -/
theorem step_sample (h : Receiving (portLine piw) 999 w (holdFor (n + 1) piw ++ rest) s) :
    ∃ t, step s = .next t ∧
      Receiving (portLine piw) 0 (shiftIn (portLine piw) w) (holdFor n piw ++ rest) t := by
  obtain ⟨t, hstep, ht⟩ := step_hold h.stimulus
  refine ⟨t, hstep, ht.linePrev, ?_, ?_, ht.stimulus⟩
  · rw [ht.phase, h.linePrev, bne_self_eq_false, if_neg (by decide), nextPhase_toNat, h.phase]
    rfl
  · rw [ht.window, h.linePrev, firedFlag_eq, h.phase, h.window]
    simp

/-- A locked sampler pushes a bit of 1000 passes once and is locked again (R105): 1 pass to the
middle phase, 499 that count, 1 that samples, 499 that count. -/
theorem run_lockedBit (hphase : s.phase.toNat = 499)
    (h : s.stimulus = holdFor 1000 piw ++ rest) :
    ∃ t, Host.Core.run Sys2Proof.core 1000 s = .next t ∧
      Receiving (portLine piw) 499 (shiftIn (portLine piw) s.window) rest t := by
  obtain ⟨a, hfirst, ha⟩ := step_firstOfBit (n := 999) hphase h
  obtain ⟨b, hcount, hb⟩ := run_count (n := 500) 499 (by decide) ha
  obtain ⟨c, hsample, hc⟩ := step_sample (n := 499) hb
  obtain ⟨t, hcount', ht⟩ := run_count (n := 0) 499 (by decide) hc
  refine ⟨t, ?_, ht⟩
  rw [run_of_step 999 hfirst, run_add 499 500 hcount, run_of_step 499 hsample, hcount']

/-- Wire bits that a locked sampler receives are pushed one after another. -/
theorem run_wireBits (bits : List Bit) (hphase : s.phase.toNat = 499)
    (h : s.stimulus = bits.map wireBit ++ rest) :
    ∃ t, Host.Core.run Sys2Proof.core (1000 * bits.length) s = .next t ∧
      t.phase.toNat = 499 ∧ t.window = pushAll bits s.window ∧ t.stimulus = rest := by
  induction bits generalizing s with
  | nil => exact ⟨s, rfl, hphase, rfl, h⟩
  | cons b bs ih =>
    obtain ⟨u, hbit, hu⟩ := run_lockedBit (piw := encodePort b true true 0#16 false) hphase h
    obtain ⟨t, hrun, ht, hwindow, hrest⟩ := ih hu.phase hu.stimulus
    refine ⟨t, ?_, ht, ?_, hrest⟩
    · rw [List.length_cons, Nat.mul_succ, Nat.add_comm, run_add 1000 _ hbit, hrun]
    · rw [hwindow, hu.window, portLine_encodePort]
      rfl

/-- Settles O21: 32 wire bits fill the window with the frame's cells. -/
theorem receivedFrameFillsTheWindow : Obligations.ReceivedFrameFillsTheWindow := by
  intro raw tail s hphase
  let u := transmitFrame Config.params raw tail s
  have hlines : u.stimulus
      = (cellList (frameCells Config.syncPattern raw tail)).map wireBit ++ s.stimulus := by
    rw [← wireFrame_eq]
    rfl
  have hlocked : u.phase.toNat = 499 := by simp [u, hphase]
  obtain ⟨t, hrun, htphase, hwindow, hrest⟩ := run_wireBits _ hlocked hlines
  have hperiods : 1000 * (cellList (frameCells Config.syncPattern raw tail)).length = 32000 := by
    simp [cellList]
  rw [hperiods] at hrun
  rw [pushAll_cellList] at hwindow
  have hcell (i : Nat) (hi : i < 32) := frameCells_getLsbD Config.syncPattern raw tail i hi
  refine ⟨u, t, rfl, hrun, fun k hk => ?_, fun k hk => ?_, ?_, ?_, hrest⟩
  · rw [hwindow, hcell k (by omega), if_pos hk]
  · rw [hwindow, hcell (23 + k) (by omega), if_neg (by omega), if_pos (by omega),
      Nat.add_sub_cancel_left]
  · rw [hwindow, frameCells_tail]
  · exact BitVec.eq_of_toNat_eq htphase

end Sys2Proof.Machine

/-! # A step's instruction and a pass's operations (30_encoding.md R74, R76, R79, R180, R185) -/

namespace Sys2Proof.Machine

/-! ## The output word (R74) -/

/-- The fields of the output word, side by side. -/
theorem outputWord_toNat (s : State) :
    (outputWord s).toNat = s.relayUp.toNat + 2 * s.relayDown.toNat + 4 * s.curHeight.toNat
      + 1024 * s.obs.pubStrobe.toNat + 2048 * s.obs.pubValue.toNat := by
  have hup := Bool.toNat_le s.relayUp
  have hdown := Bool.toNat_le s.relayDown
  have hstrobe := Bool.toNat_le s.obs.pubStrobe
  have hheight := s.curHeight.isLt
  have hvalue := s.obs.pubValue.isLt
  rw [outputWord, BitVec.toNat_ofNat]
  omega

/-- A bit of the output word, as arithmetic on its number. -/
theorem outputWord_getLsbD (s : State) (i : Nat) :
    (outputWord s).getLsbD i = decide ((outputWord s).toNat / 2 ^ i % 2 = 1) := by
  rw [← BitVec.testBit_toNat, Nat.testBit_eq_decide_div_mod_eq]

/-- The five fields of R74, each read at its place. -/
theorem outputWord_fields (s : State) :
    (outputWord s).getLsbD 0 = s.relayUp ∧ (outputWord s).getLsbD 1 = s.relayDown ∧
      (outputWord s).toNat / 4 % 256 = s.curHeight.toNat ∧
      (outputWord s).getLsbD 10 = s.obs.pubStrobe ∧
      (outputWord s).toNat / 2048 = s.obs.pubValue.toNat := by
  have hup := Bool.toNat_le s.relayUp
  have hdown := Bool.toNat_le s.relayDown
  have hstrobe := Bool.toNat_le s.obs.pubStrobe
  have hheight := s.curHeight.isLt
  simp only [outputWord_getLsbD, outputWord_toNat]
  refine ⟨?relayUp, ?relayDown, ?height, ?strobe, ?value⟩
  case relayUp => cases s.relayUp <;> simp <;> omega
  case relayDown => cases s.relayDown <;> simp <;> omega
  case height => omega
  case strobe => cases s.obs.pubStrobe <;> simp <;> omega
  case value => omega

/-- PUBLISH shows the height with a strobe and 0 without one (R190, R191). -/
theorem publish_pubValue (s : State) :
    (publish s).obs.pubValue
      = if (publish s).obs.pubStrobe then (publish s).curHeight else 0#8 := by
  rw [publish_obs, publish_curHeight]

/-- Settles O37: a pass ends by driving the output word from the state that PUBLISH left. -/
theorem outputWordCarriesTheEndOfThePass : Obligations.OutputWordCarriesTheEndOfThePass := by
  intro line dn up target valid s
  obtain ⟨u, hu⟩ : ∃ u, runPass Config.params line dn up target valid s
      = driveOutputs (publish u) := ⟨_, rfl⟩
  obtain ⟨hup, hdown, hheight, hstrobe, hvalue⟩ := outputWord_fields (publish u)
  refine ⟨driveOutputs (publish u), congrArg Host.Outcome.next hu, hup, hdown, hheight, hstrobe,
    hvalue, fun hstrobed => ?_, fun hquiet => ?_⟩
  · exact (publish_pubValue u).trans (if_pos hstrobed)
  · exact (publish_pubValue u).trans (if_neg (Bool.eq_false_iff.mp hquiet))

/-! ## The operations that the map selects (R76) -/

section
variable (piw : PortIn) (s : State)

/-- EDGE and TICK after the edge detector are the sampler stage (R100 to R104). -/
theorem runSlots_sampler :
    [Slot.edge, .tick].foldl (runSlot piw) (detectEdge (portLine piw) s)
      = samplerStage (portLine piw) s := by
  have hedge (u : State) : runSlot piw u .edge = if u.obs.edge then takeEdge u else u := by
    cases h : u.obs.edge <;> simp [runSlot, selected, enables, h, exec, execEdge]
  rw [List.foldl_cons, hedge, samplerStage]
  split <;> rfl

/-- After CHECKMATCH, EXTRACT and ACCEPT run on a full match only (R125). -/
theorem runSlots_field (hfired : s.obs.fired = true)
    (hcount : s.obs.matchCount = some (matchCount Config.syncPattern s.window)) :
    [Slot.extract, .accept].foldl (runSlot piw) s
      = if fullMatch Config.syncPattern s.window then
          accept (candidateOf (rawField s.window)).toNat (extract s) else s := by
  by_cases hfull : matchCount Config.syncPattern s.window = 23
  · rw [if_pos ((matchCount_eq_iff _ _).mp hfull)]
    simp [runSlot, selected, enables, hfired, hcount, hfull, exec, execExtract, execAccept]
  · rw [if_neg (mt (matchCount_eq_iff _ _).mpr hfull)]
    simp [runSlot, selected, enables, hcount, hfull]

/-- SAMPLE and the parts of DECODE are the decoder stage, idle in a pass that does not fire. -/
theorem runSlots_decoder :
    [Slot.sample, .pushbit, .checkmatch, .extract, .accept].foldl (runSlot piw) s
      = decoderStage Config.params (portLine piw) s := by
  rw [decoderStage]
  split
  case isFalse hidle => simp [runSlot, selected, enables, hidle]
  case isTrue hfired =>
    have hchecked : [Slot.sample, .pushbit, .checkmatch].foldl (runSlot piw) s
        = checkMatch Config.params (pushBit (portLine piw) (sampleLine (portLine piw) s)) := by
      simp [runSlot, selected, enables, hfired, exec, execSample, execPushbit, execCheckmatch]
    have hsplit : [Slot.sample, .pushbit, .checkmatch, .extract, .accept]
        = [Slot.sample, .pushbit, .checkmatch] ++ [Slot.extract, .accept] := rfl
    rw [hsplit, List.foldl_append, hchecked, runSlots_field, decodeBit]
    · rfl
    · exact hfired
    · rfl

/-- SETTARGET is the command stage (R154). -/
theorem runSlot_settarget :
    runSlot piw s .settarget
      = commandStage Config.params (portTarget piw) (portValid piw) s := by
  cases h : portValid piw <;>
    simp [runSlot, selected, h, commandStage, exec, execSettarget, sext16]

/-- SWITCH and CTLTICK are the control stage (R182). -/
theorem runSlots_control :
    [Slot.switch, .ctltick].foldl (runSlot piw) s
      = controlStage (portUpN piw) (portDownN piw) s := by
  rw [controlStage]
  split
  case isTrue hfired =>
    simp [runSlot, selected, enables, hfired, exec, execSwitch, execCtltick]
  case isFalse hidle => simp [runSlot, selected, enables, hidle]

/-- PUBLISH runs in every pass (R190). -/
theorem runSlot_publish : runSlot piw s .publish = publish s := rfl

end

/-- The places of a pass in order are the stages of R180, and last PUBLISH. -/
theorem mappedPass_eq_runPass (piw : PortIn) (s : State) :
    mappedPass piw s = runPass Config.params (portLine piw) (portDownN piw) (portUpN piw)
      (portTarget piw) (portValid piw) s := by
  have hstages : passOrder = [Slot.edge, .tick] ++ ([Slot.sample, .pushbit, .checkmatch, .extract,
      .accept] ++ (Slot.settarget :: ([Slot.switch, .ctltick] ++ [Slot.publish]))) := rfl
  rw [mappedPass, hstages, List.foldl_append, runSlots_sampler, List.foldl_append, runSlots_decoder,
    List.foldl_cons, runSlot_settarget, List.foldl_append, runSlots_control, List.foldl_cons,
    List.foldl_nil, runSlot_publish, runPass]

/-- Settles O38: the operations that the map selects make up the stages of the pass. -/
theorem passRunsTheSelectedOperationsInOrder : Obligations.PassRunsTheSelectedOperationsInOrder :=
  fun piw s => congrArg Host.Outcome.next (mappedPass_eq_runPass piw s).symm

/-! ## What a step runs -/

/-- A line that the environment presents for an instruction is run by the very next step. -/
theorem step_present_lineOf (i : Instr) (s : State) :
    ∃ rst piw, step (present (lineOf i) s)
      = exec i { s with rst := rst, piw := piw, obs := Observation.blank } := by
  cases i
  case pass line dn up target valid =>
    refine ⟨false, encodePort line dn up target valid, ?_⟩
    exact congrArg (exec · _) (decodePeriod_encodePort line dn up target valid)
  case reset => exact ⟨true, idlePort, rfl⟩
  all_goals exact ⟨s.rst, s.piw, rfl⟩

/-- What is left of a line after one of its periods. -/
theorem leftOver_eq (rst : Bit) (piw : PortIn) (more : Nat) (rest : List Stimulus) :
    leftOver rst piw more rest = if more = 0 then rest else .drive rst piw (more - 1) :: rest := by
  cases more <;> rfl

/-- Settles O6: one clause for each shape of the pending list, and for a table word the line that
`withFetchWord` puts in front of it. -/
theorem stepRunsTheDecodedInstruction : Obligations.StepRunsTheDecodedInstruction := by
  refine ⟨fun s hnone => ?none, fun s rst piw more rest i hdrive hdecode => ?drive,
    fun s i rest hoper => ?oper, fun s nbits w i hword => ?word⟩
  case none => simp only [step, fetchInstr, fetchState, hnone, clearObs]
  case drive =>
    obtain rfl : decodePeriod rst piw = i := Except.ok.inj hdecode
    simp only [step, fetchInstr, fetchState, hdrive, clearObs, leftOver_eq]
  case oper => simp only [step, fetchInstr, fetchState, hoper, clearObs]
  case word =>
    have hpresented : s.withFetchWord nbits w = present (lineOf i) s := by
      rw [State.withFetchWord, hword]
    rw [hpresented]
    exact step_present_lineOf i s

/-- Settles O48: the step of a reset period runs RESET, which reads nothing of the port word. -/
theorem resetPeriodIgnoresThePortWord : Obligations.ResetPeriodIgnoresThePortWord := by
  intro s piw piw' rest
  have hreset (w : PortIn) : step { s with stimulus := .drive true w 0 :: rest }
      = .next { State.reset with rst := true, piw := w, stimulus := rest } := rfl
  exact ⟨_, _, hreset piw, hreset piw', rfl, rfl⟩

end Sys2Proof.Machine

/-! # The Bit Sampler (41_bit_sampler.md R100 to R105) -/

namespace Sys2Proof.Machine

/-! ## The phase count and the firing in each case of R104 -/

section
variable {phase : BitVec 10}

theorem nextPhase_of_elapsed (helapsed : 1000 ≤ phase.toNat + 1) : nextPhase phase = 0#10 :=
  BitVec.eq_of_toNat_eq ((nextPhase_toNat phase).trans (if_pos helapsed))

theorem nextPhase_toNat_of_counting (hcounting : phase.toNat + 1 < 1000) :
    (nextPhase phase).toNat = phase.toNat + 1 :=
  (nextPhase_toNat phase).trans (if_neg (not_le.mpr hcounting))

theorem firedFlag_of_elapsed (helapsed : 1000 ≤ phase.toNat + 1) : firedFlag false phase = true := by
  simp [firedFlag_eq, helapsed]

theorem firedFlag_of_counting (edge : Bit) (hcounting : phase.toNat + 1 < 1000) :
    firedFlag edge phase = false := by
  rw [firedFlag_eq, decide_eq_false (not_le.mpr hcounting), Bool.and_false]

/-- The edge beats the firing (R104). -/
theorem firedFlag_of_edge (phase : BitVec 10) : firedFlag true phase = false := by
  simp [firedFlag_eq]

end

/-! ## The three operations -/

/-- Settles O8: EDGE is its handler's one write (R206). -/
theorem edgeWritesHalfCycleToThePhase : Obligations.EdgeWritesHalfCycleToThePhase :=
  fun _ => rfl

/-- Settles O9: one clause for each case of R104. -/
theorem tickCountsOrFires : Obligations.TickCountsOrFires := by
  intro edge s
  refine ⟨tick edge s, rfl, rfl, ?onEdge, ?elapsed, ?counting⟩
  case onEdge =>
    rintro rfl
    exact ⟨rfl, firedFlag_of_edge s.phase⟩
  case elapsed =>
    rintro rfl helapsed
    exact ⟨nextPhase_of_elapsed helapsed, firedFlag_of_elapsed helapsed⟩
  case counting =>
    rintro rfl hcounting
    exact ⟨nextPhase_toNat_of_counting hcounting, firedFlag_of_counting false hcounting⟩

/-- Settles O10: SAMPLE is one write to the record. -/
theorem sampleReturnsTheLineLevel : Obligations.SampleReturnsTheLineLevel :=
  fun _ _ => rfl

/-! ## The sampler in a pass -/

/-- Settles O11: the later stages of the pass leave what its sampler stage wrote, so the cases are
those of R104. -/
theorem passDetectsTheEdgeAndUpdatesThePhaseOnce :
    Obligations.PassDetectsTheEdgeAndUpdatesThePhaseOnce := by
  intro line dn up target valid s
  refine ⟨runPass Config.params line dn up target valid s, rfl, runPass_linePrev ..,
    runPass_obs_edge .., ?_⟩
  rw [runPass_phase, runPass_obs_fired]
  refine ⟨fun hchanged => ?_, fun hsame helapsed => ?_, fun hsame hcounting => ?_⟩
  · rw [bne_iff_ne.mpr hchanged]
    exact ⟨rfl, firedFlag_of_edge s.phase⟩
  · rw [hsame, bne_self_eq_false]
    exact ⟨nextPhase_of_elapsed helapsed, firedFlag_of_elapsed helapsed⟩
  · rw [hsame, bne_self_eq_false]
    exact ⟨nextPhase_toNat_of_counting hcounting, firedFlag_of_counting false hcounting⟩

/-- A pass samples the line exactly when it fires (R103, R180). -/
theorem runPass_obs_bit (P : Params) (line dn up : Bit) (target : Target) (valid : Bit)
    (s : State) :
    (runPass P line dn up target valid s).obs.bit
      = if (runPass P line dn up target valid s).obs.fired then some line else none := by
  simp only [runPass, driveOutputs_obs, publish_obs, controlStage_obs_bit, commandStage_obs_bit,
    controlStage_obs_fired, commandStage_obs_fired, decoderStage_obs_fired]
  unfold decoderStage
  split
  · simp
  · simp [samplerStage_eq, Observation.blank]

theorem fetchState_linePrev (s : State) : (fetchState s).linePrev = s.linePrev := by
  unfold fetchState; split <;> rfl

/-! ## Runs without an edge -/

section
variable {s t : State} {piw : PortIn} {phase n : Nat} {w : Window} {rest : List Stimulus}

/-- The step between a run and the run that is one step longer. -/
theorem step_of_run_succ {k : Nat} {u : State}
    (hbefore : Host.Core.run Sys2Proof.core k s = .next u)
    (hrun : Host.Core.run Sys2Proof.core (k + 1) s = .next t) : step u = .next t := by
  obtain ⟨v, hstep⟩ := step_next u
  obtain rfl : v = t := Host.Outcome.next.inj ((run_snoc hbefore hstep).symm.trans hrun)
  exact hstep

/-- What a period without an edge reports: whether the cycle has elapsed, and then the level. -/
theorem step_hold_obs (h : Receiving (portLine piw) phase w (holdFor (n + 1) piw ++ rest) s)
    (hstep : step s = .next t) :
    t.obs.fired = decide (1000 ≤ phase + 1) ∧
      t.obs.bit = if t.obs.fired then some (portLine piw) else none := by
  obtain rfl := Host.Outcome.next.inj ((step_drive h.stimulus).symm.trans hstep)
  refine ⟨?_, runPass_obs_bit ..⟩
  rw [runPass_obs_fired, fetchState_linePrev, fetchState_phase, h.linePrev, bne_self_eq_false,
    firedFlag_eq, h.phase, Bool.not_false, Bool.true_and]

/-- The last pass of a run that only counts has not fired. -/
theorem run_count_not_fired (k : Nat) (hend : phase + (k + 1) ≤ 999)
    (h : Receiving (portLine piw) phase w (holdFor (n + (k + 1)) piw ++ rest) s) :
    ∃ t, Host.Core.run Sys2Proof.core (k + 1) s = .next t ∧ t.obs.fired = false ∧
      Receiving (portLine piw) (phase + (k + 1)) w (holdFor n piw ++ rest) t := by
  obtain ⟨t, hrun, ht⟩ := run_count (k + 1) hend h
  rw [Nat.add_comm k, ← Nat.add_assoc] at h
  obtain ⟨u, hbefore, hu⟩ := run_count k (by omega) h
  refine ⟨t, hrun, ?_, ht⟩
  rw [(step_hold_obs hu (step_of_run_succ hbefore hrun)).1, decide_eq_false (by omega)]

end

/-- Settles O12: from the middle phase 499 passes count up to phase 999, and the next one
samples. -/
theorem samplerFiresInTheFiveHundredthPassAfterAnEdge :
    Obligations.SamplerFiresInTheFiveHundredthPassAfterAnEdge := by
  intro s piw more rest hphase hline hlines hmore
  have hstart (n k : Nat) (hsum : n + k = more + 1) :
      Receiving (portLine piw) 500 s.window (holdFor (n + k) piw ++ rest) s :=
    ⟨hline, congrArg BitVec.toNat hphase, rfl, hsum ▸ hlines⟩
  constructor
  · intro k hpos hk
    obtain ⟨j, rfl⟩ : ∃ j, k = j + 1 := ⟨k - 1, by omega⟩
    obtain ⟨t, hrun, hfired, ht⟩ :=
      run_count_not_fired j (by omega) (hstart (more + 1 - (j + 1)) (j + 1) (by omega))
    exact ⟨t, hrun, hfired, ht.phase, ht.window⟩
  · obtain ⟨u, hrun, hu⟩ := run_count 499 (by decide) (hstart (more - 499 + 1) 499 (by omega))
    obtain ⟨t, hstep, ht⟩ := step_sample hu
    obtain ⟨hfired, hbit⟩ := step_hold_obs hu hstep
    exact ⟨t, run_snoc hrun hstep, hfired, BitVec.eq_of_toNat_eq ht.phase,
      hbit.trans (if_pos hfired)⟩

/-- Settles O13: a locked bit is one shift of the window, and the sampler is locked again. -/
theorem lockedWireBitIsSampledExactlyOnce : Obligations.LockedWireBitIsSampledExactlyOnce := by
  intro s piw rest hphase hlines
  obtain ⟨t, hrun, ht⟩ := run_lockedBit (congrArg BitVec.toNat hphase) hlines
  refine ⟨t, hrun, BitVec.eq_of_toNat_eq ht.phase, ht.linePrev, ht.stimulus, fun i hi => ?_, ?_⟩
  · rw [ht.window, shiftIn_getLsbD _ _ i (by omega), if_pos hi]
  · rw [ht.window, shiftIn_getLsbD _ _ 31 (by decide), if_neg (by decide), portLine]

end Sys2Proof.Machine

/-! # The Frame Decoder (42_frame_decoder.md R120 to R125) -/

namespace Sys2Proof.Machine

/-! ## The window's shift (R120) -/

/-- The push drops the oldest cell, moves every other cell one place down and appends the bit. -/
theorem shiftIn_cells (bit : Bit) (w : Window) :
    (∀ i, i < 31 → (shiftIn bit w).getLsbD i = w.getLsbD (i + 1)) ∧
      (shiftIn bit w).getLsbD 31 = bit := by
  refine ⟨fun i hi => ?_, ?_⟩
  · rw [shiftIn_getLsbD _ _ i (by omega), if_pos hi]
  · rw [shiftIn_getLsbD _ _ 31 (by decide), if_neg (by decide)]

/-- Settles O14: PUSHBIT's one store is the window's shift. -/
theorem pushbitShiftsTheWindow : Obligations.PushbitShiftsTheWindow := by
  intro bit s
  exact ⟨pushBit bit s, rfl, rfl, shiftIn_cells bit s.window⟩

/-! ## The match (R121, R122) -/

/-- Settles O15: the transient that CHECKMATCH sets is the count of the leading agreement. -/
theorem checkmatchCountsTheLeadingAgreement : Obligations.CheckmatchCountsTheLeadingAgreement := by
  intro s
  exact ⟨matchCount Config.syncPattern s.window, rfl, matchCount_spec Config.syncPattern s.window⟩

/-- Settles O16: the count is 23 exactly on a full match, and it is never more. -/
theorem fullMatchIsThePatternInTheOldestCells :
    Obligations.FullMatchIsThePatternInTheOldestCells := by
  intro s
  have hfull : matchCount Config.syncPattern s.window = 23 ↔
      ∀ k, k < 23 → s.window.getLsbD k = Config.syncPattern.getLsbD k :=
    (matchCount_eq_iff _ _).trans (fullMatch_iff _ _)
  have hle := (matchCount_spec Config.syncPattern s.window).1
  exact ⟨checkMatch Config.params s, matchCount Config.syncPattern s.window, rfl, rfl, hfull.mpr,
    fun hdiffer => lt_of_le_of_ne hle (mt hfull.mp hdiffer)⟩

/-! ## The field (R123) -/

/-- The field's number is the sum of its cells by weight, the first cell the least significant. -/
theorem rawField_toNat_eq_sum (w : Window) :
    (rawField w).toNat = ((List.range 8).map fun k => (w.getLsbD (23 + k)).toNat * 2 ^ k).sum := by
  rw [rawField_toNat]
  simp [List.range_succ]
  omega

/-- The field ends before the window does, so that its indices do not wrap (R123). -/
theorem fieldWeights_wrap (w : Window) :
    ((List.range 8).map fun k => (w.getLsbD ((23 + k) % 32)).toNat * 2 ^ k)
      = (List.range 8).map fun k => (w.getLsbD (23 + k)).toNat * 2 ^ k :=
  rfl

/-- Settles O17: EXTRACT's transients are the field's number and its complement. -/
theorem extractReadsAndInvertsTheField : Obligations.ExtractReadsAndInvertsTheField := by
  intro s
  refine ⟨rawField s.window, candidateOf (rawField s.window), rfl, ?_, candidateOf_toNat _⟩
  rw [fieldWeights_wrap, rawField_toNat_eq_sum]

/-! ## DECODE (R125) -/

/-- What ACCEPT decides depends on the state through the height alone (R140). -/
theorem accept_decision_congr (c : Nat) {s u : State} (hheight : s.curHeight = u.curHeight) :
    (accept c s).curHeight = (accept c u).curHeight ∧
      (accept c s).obs.accepted = (accept c u).obs.accepted ∧
      (accept c s).obs.acceptReason = (accept c u).obs.acceptReason := by
  unfold accept
  rw [hheight]
  split <;> simp

/-- ACCEPT leaves all but the height and the record as they were (R140). -/
theorem accept_frame (c : Nat) (s : State) :
    ∃ height obs, accept c s = { s with curHeight := height, obs := obs } := by
  rcases accept_cases c s with ⟨-, -, -, h⟩ | ⟨-, h⟩ | ⟨-, -, -, -, h⟩ <;> exact ⟨_, _, h⟩

/-- DECODE shifts the window and leaves all else but the height and the record as it was (R125). -/
theorem decodeBit_frame (P : Params) (bit : Bit) (s : State) :
    ∃ height obs, decodeBit P bit s =
      { s with window := shiftIn bit s.window, curHeight := height, obs := obs } := by
  rcases decodeBit_cases P bit s with ⟨-, hfull⟩ | ⟨-, hmiss⟩
  · obtain ⟨height, obs, haccept⟩ := accept_frame
      (candidateOf (rawField (shiftIn bit s.window))).toNat (extract (checkMatch P (pushBit bit s)))
    exact ⟨height, obs, hfull.trans haccept⟩
  · exact ⟨s.curHeight, _, hmiss⟩

section

variable {P : Params} {bit : Bit} {s : State}

/-- Without a full match DECODE is the push and the count (R125). -/
theorem decodeBit_of_mismatch {k : Nat} (hk : k < 23)
    (hdiffer : (shiftIn bit s.window).getLsbD k ≠ P.syncPattern.getLsbD k) :
    decodeBit P bit s = checkMatch P (pushBit bit s) := by
  rcases decodeBit_cases P bit s with ⟨hfull, -⟩ | ⟨-, hmiss⟩
  · exact absurd ((fullMatch_iff _ _).mp hfull k hk) hdiffer
  · exact hmiss

variable (hagree : ∀ k, k < 23 → (shiftIn bit s.window).getLsbD k = P.syncPattern.getLsbD k)
include hagree

/-- On a full match DECODE hands the candidate of the shifted window to ACCEPT (R125). -/
theorem decodeBit_of_fullMatch :
    decodeBit P bit s = accept (candidateOf (rawField (shiftIn bit s.window))).toNat
      (extract (checkMatch P (pushBit bit s))) := by
  rcases decodeBit_cases P bit s with ⟨-, hfull⟩ | ⟨hmiss, -⟩
  · exact hfull
  · rw [(fullMatch_iff _ _).mpr hagree] at hmiss
    contradiction

/-- On a full match DECODE decides as ACCEPT does on the state before it, for the push and the
transients leave the height alone (R125). -/
theorem decodeBit_decision_of_fullMatch :
    let u := accept (candidateOf (rawField (shiftIn bit s.window))).toNat s
    (decodeBit P bit s).curHeight = u.curHeight ∧
      (decodeBit P bit s).obs.accepted = u.obs.accepted ∧
      (decodeBit P bit s).obs.acceptReason = u.obs.acceptReason := by
  rw [decodeBit_of_fullMatch hagree]
  have hheight : (extract (checkMatch P (pushBit bit s))).curHeight = s.curHeight := by simp
  exact accept_decision_congr _ hheight

/-- On a full match DECODE records the count of 23 and the candidate (R125). -/
theorem decodeBit_transients_of_fullMatch :
    (decodeBit P bit s).obs.matchCount = some 23 ∧
      (decodeBit P bit s).obs.candidate = some (candidateOf (rawField (shiftIn bit s.window))) := by
  have hcount : matchCount P.syncPattern (shiftIn bit s.window) = 23 :=
    (matchCount_eq_iff _ _).mpr ((fullMatch_iff _ _).mpr hagree)
  rw [decodeBit_of_fullMatch hagree]
  simp [hcount]

end

/-- Settles O19: a mismatch leaves the push and the count; on a full match the height and the
verdict are ACCEPT's, which sees the same height before and after the push. -/
theorem decodeAcceptsOnlyOnAFullMatch : Obligations.DecodeAcceptsOnlyOnAFullMatch := by
  intro bit s
  obtain ⟨hshift, hnewest⟩ := shiftIn_cells bit s.window
  refine ⟨decodeBit Config.params bit s, rfl, ?_⟩
  rw [decodeBit_window]
  refine ⟨hshift, hnewest, ?frame, ?mismatch, ?fullMatch⟩
  case frame =>
    obtain ⟨height, obs, hframe⟩ := decodeBit_frame Config.params bit s
    rw [hframe]
  case mismatch =>
    rintro ⟨k, hk, hdiffer⟩
    rw [decodeBit_of_mismatch hk hdiffer]
    exact ⟨rfl, rfl⟩
  case fullMatch =>
    intro hagree
    obtain ⟨hcount, hcandidate⟩ :=
      decodeBit_transients_of_fullMatch (P := Config.params) hagree
    have hdecision := decodeBit_decision_of_fullMatch (P := Config.params) hagree
    refine ⟨_, accept _ s, hcount, hcandidate, ?_, rfl, ?_⟩
    · rw [candidateOf_toNat, rawField_toNat_eq_sum]
    · -- The two sides write the field's width as `8` and as `Config.fieldLen`.
      with_reducible exact hdecision

end Sys2Proof.Machine

/-! # The Height Filter (43_height_filter.md R140 to R143) -/

namespace Sys2Proof.Machine

/-! ## The tests in their order (R140) -/

section
variable {cur c : Nat}

theorem filterDrop_of_outOfRange (hout : c < 60 ∨ 120 < c) : filterDrop cur c = some .outOfRange :=
  if_pos hout

/-- In range what decides is the height: the bootstrap, then the delta test. -/
theorem filterDrop_of_inRange (hin : 60 ≤ c ∧ c ≤ 120) :
    filterDrop cur c = if cur = 0 then none
      else if |(cur : Int) - c| < 5 then none else some .deltaTooLarge := by
  have hrange : ¬(c < Config.hMin ∨ c > Config.hMax) := by
    rw [Config.hMin_eq, Config.hMax_eq]
    omega
  have hdelta : ((cur : Int) - c).natAbs < Config.maxDelta ↔ |(cur : Int) - c| < 5 := by
    rw [Int.abs_eq_natAbs, Config.maxDelta_eq]
    omega
  rw [filterDrop, if_neg hrange, Config.heightUnknown_eq]
  simp only [hdelta]

end

section
variable {c : Nat} {s : State}

theorem accept_of_filterDrop_none (hnone : filterDrop s.curHeight.toNat c = none) :
    accept c s = { s with
      curHeight := BitVec.ofNat 8 c
      obs := { s.obs with accepted := some true, acceptReason := none } } := by
  rw [accept, hnone]

theorem accept_of_filterDrop_some {r : Reason} (hdrop : filterDrop s.curHeight.toNat c = some r) :
    accept c s = { s with
      obs := { s.obs with accepted := some false, acceptReason := some r } } := by
  rw [accept, hdrop]

end

/-- Settles O23: each clause is one outcome of the filter's tests. -/
theorem acceptAppliesItsTestsInOrder : Obligations.AcceptAppliesItsTestsInOrder := by
  intro c s
  have known (hne : s.curHeight ≠ 0#8) : s.curHeight.toNat ≠ 0 :=
    mt (BitVec.eq_of_toNat_eq (y := 0#8)) hne
  refine ⟨accept c s, rfl, fun hout => ?outOfRange, fun hin hzero => ?bootstrap,
    fun hin hne hnear => ?near, fun hin hne hfar => ?far⟩
  case outOfRange => exact accept_of_filterDrop_some (filterDrop_of_outOfRange hout)
  case bootstrap =>
    apply accept_of_filterDrop_none
    rw [filterDrop_of_inRange hin, hzero, if_pos (by rfl)]
  case near =>
    apply accept_of_filterDrop_none
    rw [filterDrop_of_inRange hin, if_neg (known hne), if_pos hnear]
  case far =>
    apply accept_of_filterDrop_some
    rw [filterDrop_of_inRange hin, if_neg (known hne), if_neg (not_lt.mpr hfar)]

/-! ## The testable properties (R143) -/

/-- A plausible height is read back from its byte. -/
theorem toNat_ofNat_of_inRange {c : Nat} (hmax : c ≤ 120) : (BitVec.ofNat 8 c).toNat = c :=
  (BitVec.toNat_ofNat c 8).trans (Nat.mod_eq_of_lt (by omega))

/-- Settles O24: the clauses of R140 give R143; a candidate far from a known height is dropped by
one test or by the other. -/
theorem filterHasTheTestableProperties : Obligations.FilterHasTheTestableProperties := by
  intro c s
  obtain ⟨t, hexec, hrange, hbootstrap, -, hfar⟩ := acceptAppliesItsTestsInOrder c s
  refine ⟨t, hexec, fun hmin hmax hzero => ?bootstrap, fun hne hdelta => ?far, fun hout => ?out⟩
  case bootstrap =>
    rw [hbootstrap ⟨hmin, hmax⟩ hzero]
    exact toNat_ofNat_of_inRange hmax
  case far =>
    by_cases hin : 60 ≤ c ∧ c ≤ 120
    · rw [hfar hin hne hdelta]
    · rw [hrange (by omega)]
  case out => rw [hrange hout]

/-! ## The height in a pass (R142, R180) -/

/-- The height that DECODE leaves is the one before it or ACCEPT's of some candidate (R125). -/
theorem decodeBit_curHeight_cases (P : Params) (bit : Bit) (s : State) :
    (decodeBit P bit s).curHeight = s.curHeight ∨
      ∃ c, (decodeBit P bit s).curHeight = (accept c s).curHeight := by
  rcases decodeBit_cases P bit s with ⟨hfull, -⟩ | ⟨-, hmiss⟩
  · have hagree := (fullMatch_iff _ _).mp hfull
    exact .inr ⟨_, (decodeBit_decision_of_fullMatch hagree).1⟩
  · rw [hmiss]
    exact .inl rfl

/-- The stages after the decoder leave the height alone (R180). -/
theorem runPass_curHeight (P : Params) (line dn up : Bit) (target : Target) (valid : Bit)
    (s : State) :
    (runPass P line dn up target valid s).curHeight = (received P line s).curHeight := by
  simp [runPass, received]

/-- In a pass ACCEPT is the height's only writer (R140, R180). -/
theorem runPass_curHeight_cases (P : Params) (line dn up : Bit) (target : Target) (valid : Bit)
    (s : State) :
    (runPass P line dn up target valid s).curHeight = s.curHeight ∨
      ∃ c, (runPass P line dn up target valid s).curHeight = (accept c s).curHeight := by
  have hsampled : (sampleLine line (samplerStage line (clearObs s))).curHeight = s.curHeight := by
    simp [samplerStage_eq]
  rw [runPass_curHeight, received, decoderStage]
  split
  · rcases decodeBit_curHeight_cases P line (sampleLine line (samplerStage line (clearObs s)))
      with hkept | ⟨c, haccept⟩
    · exact .inl (hkept.trans hsampled)
    · exact .inr ⟨c, haccept.trans (accept_decision_congr c hsampled).1⟩
  · exact .inl hsampled

/-- From a known plausible height the filter lets through only a plausible one at most 4 away
(R142). -/
theorem accept_curHeight_of_known {s : State} (c : Nat) (hmin : 60 ≤ s.curHeight.toNat)
    (hmax : s.curHeight.toNat ≤ 120) :
    60 ≤ (accept c s).curHeight.toNat ∧ (accept c s).curHeight.toNat ≤ 120 ∧
      |((accept c s).curHeight.toNat : Int) - s.curHeight.toNat| ≤ 4 := by
  rcases accept_cases c s with ⟨hcmin, hcmax, hnear, hwrite⟩ | ⟨-, hdrop⟩ | ⟨-, -, -, -, hdrop⟩
  · rw [hwrite, toNat_ofNat_of_inRange hcmax, Int.abs_eq_natAbs]
    omega
  all_goals
    rw [hdrop]
    simp [hmin, hmax]

/-- Settles O25: a pass keeps the height or writes what ACCEPT does. -/
theorem knownHeightMovesByAtMostFourAPass : Obligations.KnownHeightMovesByAtMostFourAPass := by
  intro line dn up target valid s hmin hmax
  refine ⟨runPass Config.params line dn up target valid s, rfl, ?_⟩
  rcases runPass_curHeight_cases Config.params line dn up target valid s with hkept | ⟨c, haccept⟩
  · rw [hkept]
    simp [hmin, hmax]
  · rw [haccept]
    exact accept_curHeight_of_known c hmin hmax

end Sys2Proof.Machine

/-! # The Movement Controller (44_movement_controller.md R150 to R156)

First the micro-operations, each as its one write, and the arms of SETTARGET, CTLTICK and SWITCH;
then what a pass does with the switches and with a command. -/

namespace Sys2Proof.Machine

variable {s : State}

/-! ## The micro-operations (R151 to R153) -/

/-- ENTER_UP's ordered writes put together. -/
theorem enterUp_eq (s : State) : enterUp s = { s with
    relayDown := false
    relayUp := true
    motion := .movingUp
    obs := { s.obs with events := s.obs.events ++ [.dn false, .up true] } } := by
  simp [enterUp, writeRelayUp, writeRelayDown]

/-- ENTER_DOWN's ordered writes put together. -/
theorem enterDown_eq (s : State) : enterDown s = { s with
    relayUp := false
    relayDown := true
    motion := .movingDown
    obs := { s.obs with events := s.obs.events ++ [.up false, .dn true] } } := by
  simp [enterDown, writeRelayUp, writeRelayDown]

/-- STOP's ordered writes and the snap put together. -/
theorem stop_eq (s : State) : stop s = { s with
    relayUp := false
    relayDown := false
    motion := .stopped
    tgtHeight := snapTarget s.curHeight
    obs := { s.obs with events := s.obs.events ++ [.up false, .dn false] } } := by
  simp [stop, snap, writeRelayUp, writeRelayDown]

/-- Settles O26: the writes of R151 in their order. -/
theorem enterUpReleasesTheDownRelayFirst : Obligations.EnterUpReleasesTheDownRelayFirst :=
  fun s => congrArg Host.Outcome.next (enterUp_eq s)

/-- Settles O27: the writes of R152 in their order. -/
theorem enterDownReleasesTheUpRelayFirst : Obligations.EnterDownReleasesTheUpRelayFirst :=
  fun s => congrArg Host.Outcome.next (enterDown_eq s)

/-- Settles O28: the snapped target reads back as the height. -/
theorem stopReleasesBothRelaysAndSnapsTheTarget :
    Obligations.StopReleasesBothRelaysAndSnapsTheTarget :=
  fun s => ⟨snapTarget s.curHeight, snapTarget_toInt s.curHeight,
    congrArg Host.Outcome.next (stop_eq s)⟩

/-! ## SETTARGET (R154) -/

section
variable {P : Params} {n : Int}

theorem setTarget_of_manualOverride (hmanual : s.mode = .manualOverride) :
    setTarget P n s = noteCommand .rejectedInManual s := by
  simp [setTarget, commandArm, hmanual]

theorem setTarget_of_above (hauto : s.mode = .auto) (habove : s.cur < n) (hmax : n < P.maxHeight) :
    setTarget P n s = enterUp (startToward n s) := by
  simp [setTarget, commandArm, hauto, habove, hmax]

theorem setTarget_of_below (hauto : s.mode = .auto) (hbelow : n < s.cur) :
    setTarget P n s = enterDown (startToward n s) := by
  simp [setTarget, commandArm, hauto, hbelow, hbelow.not_gt]

/-- The last arm: at the height, or above it from the maximum on. -/
theorem setTarget_of_invalid (hauto : s.mode = .auto)
    (hinvalid : s.cur = n ∨ (s.cur < n ∧ P.maxHeight ≤ n)) :
    setTarget P n s = stop (noteCommand .invalidTarget s) := by
  have hup : ¬(s.cur < n ∧ n < P.maxHeight) := by omega
  have hdown : ¬s.cur > n := by omega
  simp [setTarget, commandArm, hauto, hup, hdown]

end

/-- Settles O29: one clause for each arm; a 16-bit operand is read back from the target. -/
theorem settargetTakesTheFirstArmThatApplies :
    Obligations.SettargetTakesTheFirstArmThatApplies := by
  intro n s hmin hmax
  have htarget := toInt_ofInt_target n ⟨hmin, hmax⟩
  refine ⟨setTarget Config.params n s, rfl, fun hmanual => ?rejected,
    fun hauto habove hbelowMax => ?moveUp, fun hauto hbelow => ?moveDown,
    fun hauto hinvalid => ?invalid⟩
  case rejected =>
    rw [setTarget_of_manualOverride hmanual]
    rfl
  case moveUp =>
    rw [← Config.params_maxHeight] at hbelowMax
    rw [setTarget_of_above hauto habove hbelowMax]
    exact ⟨htarget, enterUp_eq (startToward n s)⟩
  case moveDown =>
    rw [setTarget_of_below hauto hbelow]
    exact ⟨htarget, enterDown_eq (startToward n s)⟩
  case invalid =>
    rw [← Config.params_maxHeight] at hinvalid
    rw [setTarget_of_invalid hauto hinvalid]
    exact ⟨snapTarget_toInt s.curHeight, stop_eq (noteCommand .invalidTarget s)⟩

/-! ## CTLTICK (R155) -/

/-- Settles O30: CTLTICK is STOP within the offset in either direction, and else nothing. -/
theorem ctltickStopsWithinTheOffset : Obligations.CtltickStopsWithinTheOffset := by
  intro s
  refine ⟨ctlTick s, rfl, ?_⟩
  rcases ctlTick_cases s with ⟨hauto, hup, hreached, hstop⟩ | ⟨hauto, hdown, hreached, hstop⟩ |
    ⟨hnotUp, hnotDown, hsame⟩
  · rw [hstop]
    exact ⟨fun _ => ⟨snapTarget_toInt s.curHeight, stop_eq s⟩,
      fun hnotUp _ => absurd ⟨hauto, hup, hreached⟩ hnotUp⟩
  · rw [hstop]
    exact ⟨fun _ => ⟨snapTarget_toInt s.curHeight, stop_eq s⟩,
      fun _ hnotDown => absurd ⟨hauto, hdown, hreached⟩ hnotDown⟩
  · exact ⟨fun hwithin => (hwithin.elim hnotUp hnotDown).elim, fun _ _ => hsame⟩

/-- Settles O32: from 60 on the height less the offset is at least 58, so the comparison fails. -/
theorem downwardTargetBelowFiftyEightIsNeverReached :
    Obligations.DownwardTargetBelowFiftyEightIsNeverReached := by
  intro s hauto hdown hheight htarget
  have hshort : ¬(s.curHeight.toNat : Int) - 2 ≤ s.tgtHeight.toInt := by omega
  exact congrArg Host.Outcome.next ((ctlTick_of_movingDown hauto hdown).trans (if_neg hshort))

/-! ## SWITCH (R156) -/

section
variable {upN downN : Bit}

theorem switchInput_release (hmanual : s.mode = .manualOverride) :
    switchInput true true s = { stop s with mode := .auto } := by
  simp [switchInput, hmanual]

theorem switchInput_of_held (hmanual : s.mode = .manualOverride)
    (hheld : upN = false ∨ downN = false) : switchInput upN downN s = s := by
  rcases hheld with rfl | rfl <;> simp [switchInput, hmanual]

/-- The up switch takes over whatever the down switch reads. -/
theorem switchInput_takeUp (downN : Bit) (hauto : s.mode = .auto) :
    switchInput false downN s = enterUp { s with mode := .manualOverride } := by
  cases downN <;> simp [switchInput, hauto, switchDirection, active, enter]

theorem switchInput_takeDown (hauto : s.mode = .auto) :
    switchInput true false s = enterDown { s with mode := .manualOverride } := by
  simp [switchInput, hauto, switchDirection, active, enter]

/-- The polls that call for a change of mode (R209). -/
theorem switchInput_mode_ne_iff :
    (switchInput upN downN s).mode ≠ s.mode ↔
      (s.mode = .auto ∧ (upN = false ∨ downN = false)) ∨
        (s.mode = .manualOverride ∧ upN = true ∧ downN = true) := by
  rcases switchInput_cases upN downN s with ⟨hmode, rfl, rfl, e⟩ | ⟨hmode, rfl, e⟩ |
    ⟨hmode, rfl, rfl, e⟩ | ⟨hidle, e⟩
  · simp [e, hmode]
  · simp [e, hmode]
  · simp [e, hmode]
  · rcases hidle with ⟨hmode, hheld⟩ | ⟨hmode, rfl, rfl⟩
    · simpa [e, hmode] using hheld
    · simp [e, hmode]

/-- A change of mode ends outside automatic motion: stopped, or in ManualOverride. -/
theorem switchInput_idle_of_mode_ne (hchanged : (switchInput upN downN s).mode ≠ s.mode) :
    ¬AutoMoving (switchInput upN downN s) := by
  intro hmoving
  rw [switchInput_eq_self_of_autoMoving hmoving] at hchanged
  exact hchanged rfl

end

/-- Settles O31: one clause for each poll. -/
theorem switchTakesOverAndReleases : Obligations.SwitchTakesOverAndReleases := by
  intro upN downN s
  refine ⟨switchInput upN downN s, rfl, ?released, switchInput_of_held, ?takeUp, ?takeDown,
    ?untouched⟩
  case released =>
    rintro hmanual rfl rfl
    rw [switchInput_release hmanual]
    exact ⟨snapTarget_toInt s.curHeight, congrArg (fun t => { t with mode := .auto }) (stop_eq s)⟩
  case takeUp =>
    rintro hauto rfl
    rw [switchInput_takeUp downN hauto, enterUp_eq]
  case takeDown =>
    rintro hauto rfl rfl
    rw [switchInput_takeDown hauto, enterDown_eq]
  case untouched =>
    rintro hauto rfl rfl
    exact switchInput_released hauto

/-! ## The switches in a pass (R181, R182, R209) -/

section
variable (P : Params) (line dn up : Bit) (target : Target) (valid : Bit)

/-- The state at the switch poll of a pass: sampled, decoded, and with the command taken. -/
def commanded (P : Params) (line : Bit) (target : Target) (valid : Bit) (s : State) : State :=
  commandStage P target valid (received P line s)

/-- A pass is the control stage on the commanded state, then the outputs (R180). -/
theorem runPass_eq_commanded (s : State) :
    runPass P line dn up target valid s
      = driveOutputs (publish (controlStage up dn (commanded P line target valid s))) := rfl

@[simp] theorem commanded_mode (s : State) : (commanded P line target valid s).mode = s.mode := by
  simp [commanded]

@[simp] theorem commanded_obs_fired (s : State) :
    (commanded P line target valid s).obs.fired = firedFlag (line != s.linePrev) s.phase := by
  simp [commanded]

end

theorem firedFlag_bne_iff {line linePrev : Bit} {phase : BitVec 10} :
    firedFlag (line != linePrev) phase = true ↔ line = linePrev ∧ 1000 ≤ phase.toNat + 1 := by
  simp [firedFlag_eq]

/-- A poll that changes the mode leaves CTLTICK nothing to do (R181). -/
theorem controlStage_of_mode_ne {upN downN : Bit} (hfired : s.obs.fired = true)
    (hchanged : (switchInput upN downN s).mode ≠ s.mode) :
    controlStage upN downN s = switchInput upN downN s :=
  (if_pos hfired).trans (ctlTick_eq_self_of_idle (switchInput_idle_of_mode_ne hchanged))

/-- The control stage changes the mode when the pass fires and its poll calls for it. -/
theorem controlStage_mode_ne_iff {upN downN : Bit} :
    (controlStage upN downN s).mode ≠ s.mode ↔
      s.obs.fired = true ∧ (switchInput upN downN s).mode ≠ s.mode := by
  rw [controlStage]
  split <;> simp [*]

/-- Settles O41: the command leaves the mode in Auto, so the poll takes over, and CTLTICK does
nothing in ManualOverride. -/
theorem switchOverridesTheCommandOfTheSamePass :
    Obligations.SwitchOverridesTheCommandOfTheSamePass := by
  intro line dn up target valid s hline hphase hauto hactive
  refine ⟨runPass Config.params line dn up target valid s, rfl, ?_⟩
  rw [runPass_eq_commanded]
  have hmode : (commanded Config.params line target valid s).mode = .auto := by simp [hauto]
  have hfired : (commanded Config.params line target valid s).obs.fired = true := by
    rw [commanded_obs_fired, firedFlag_bne_iff]
    exact ⟨hline, hphase⟩
  rw [controlStage_of_mode_ne hfired (switchInput_mode_ne_iff.mpr (.inl ⟨hmode, hactive⟩))]
  cases up with
  | false =>
    rw [switchInput_takeUp dn hmode]
    simp
  | true =>
    obtain rfl : dn = false := by simpa using hactive
    rw [switchInput_takeDown hmode]
    simp

/-- Settles O42: only the control stage touches the mode; out of ManualOverride the poll was a
release, which CTLTICK leaves as it is. -/
theorem modeChangesOnlyAtASwitchPoll : Obligations.ModeChangesOnlyAtASwitchPoll := by
  intro line dn up target valid s
  refine ⟨runPass Config.params line dn up target valid s, rfl, ?_⟩
  have hchange := controlStage_mode_ne_iff (upN := up) (downN := dn)
    (s := commanded Config.params line target valid s)
  rw [runPass_eq_commanded]
  refine ⟨?changes, fun hmanual hauto => ?released⟩
  case changes =>
    rw [switchInput_mode_ne_iff, commanded_obs_fired, firedFlag_bne_iff, commanded_mode,
      and_assoc] at hchange
    exact hchange
  case released =>
    have hmode : (commanded Config.params line target valid s).mode = .manualOverride := by
      simp [hmanual]
    have hleft : (controlStage up dn (commanded Config.params line target valid s)).mode
        ≠ (commanded Config.params line target valid s).mode := by
      rw [hmode]
      exact ne_of_eq_of_ne hauto nofun
    obtain ⟨hfired, hpoll⟩ := hchange.mp hleft
    obtain ⟨rfl, rfl⟩ : up = true ∧ dn = true := by
      simpa [hmanual] using switchInput_mode_ne_iff.mp hpoll
    rw [controlStage_of_mode_ne hfired hpoll, switchInput_release hmode]
    simp

/-! ## A command in ManualOverride (R246) -/

/-- No stage after the command reads its note. -/
theorem switchInput_noteCommand (r : Reason) (upN downN : Bit) (s : State) :
    switchInput upN downN (noteCommand r s) = noteCommand r (switchInput upN downN s) := by
  unfold switchInput
  rw [noteCommand_mode]
  split
  case h_1 => split <;> rfl
  case h_2 =>
    split
    case h_1 d _ => cases d <;> rfl
    case h_2 => rfl

theorem ctlTick_noteCommand (r : Reason) (s : State) :
    ctlTick (noteCommand r s) = noteCommand r (ctlTick s) := by
  rw [ctlTick, ctlTick, apply_ite (noteCommand r)]
  rfl

theorem controlStage_noteCommand (r : Reason) (upN downN : Bit) (s : State) :
    controlStage upN downN (noteCommand r s) = noteCommand r (controlStage upN downN s) := by
  rw [controlStage, switchInput_noteCommand, ctlTick_noteCommand]
  exact (apply_ite (noteCommand r) _ _ _).symm

/-- The publisher and the output word do not read the note either. -/
theorem driveOutputs_publish_noteCommand (r : Reason) (s : State) :
    driveOutputs (publish (noteCommand r s)) = noteCommand r (driveOutputs (publish s)) := rfl

/-- In ManualOverride a command adds its note to the pass without it. -/
theorem runPass_of_manualOverride (P : Params) (line dn up : Bit) (target : Target)
    (hmanual : s.mode = .manualOverride) :
    runPass P line dn up target true s
      = noteCommand .rejectedInManual (runPass P line dn up target false s) := by
  have hnote : commanded P line target true s
      = noteCommand .rejectedInManual (commanded P line target false s) :=
    setTarget_of_manualOverride ((received_mode P line s).trans hmanual)
  rw [runPass_eq_commanded, hnote, controlStage_noteCommand, driveOutputs_publish_noteCommand]
  rfl

/-- Settles O43: the note is what the rejected command leaves. -/
theorem commandInManualOverrideIsLost : Obligations.CommandInManualOverrideIsLost := by
  intro line dn up target s hmanual
  exact ⟨_, runPass Config.params line dn up target false s, rfl, rfl,
    runPass_of_manualOverride Config.params line dn up target hmanual⟩

end Sys2Proof.Machine

/-! # The Pass Sequencer (45_pass_sequencer.md R180 to R185) -/

namespace Sys2Proof.Machine

variable {s : State}

/-! ## A pass that does not fire (R182) -/

/-- The two ways of not firing: an edge, or a count that goes on (R104). -/
theorem firedFlag_bne_eq_false_iff {line linePrev : Bit} {phase : BitVec 10} :
    firedFlag (line != linePrev) phase = false ↔ line ≠ linePrev ∨ phase.toNat + 1 < 1000 := by
  rw [← Bool.not_eq_true, firedFlag_bne_iff, not_and_or, not_le]

/-- Without a firing nothing is decoded. -/
theorem received_of_not_fired {P : Params} {line : Bit}
    (hquiet : firedFlag (line != s.linePrev) s.phase = false) :
    received P line s = samplerStage line (clearObs s) :=
  if_neg (by simp [samplerStage_eq, hquiet])

/-- Without a firing the switches are not polled and CTLTICK does not run. -/
theorem controlStage_of_not_fired {upN downN : Bit} (hquiet : s.obs.fired = false) :
    controlStage upN downN s = s :=
  if_neg (ne_true_of_eq_false hquiet)

/-- Between the sampler and the outputs, a pass that does not fire takes its command and no more. -/
theorem runPass_of_not_fired {P : Params} {line : Bit} (dn up : Bit) (target : Target) (valid : Bit)
    (hquiet : firedFlag (line != s.linePrev) s.phase = false) :
    runPass P line dn up target valid s
      = driveOutputs (publish (commandStage P target valid (samplerStage line (clearObs s)))) := by
  have hnotFired : (commanded P line target valid s).obs.fired = false := by simp [hquiet]
  rw [runPass_eq_commanded, controlStage_of_not_fired hnotFired, commanded,
    received_of_not_fired hquiet]

/-- Settles O39: what is left of the pass is the sampler and the command, which touch neither the
window nor the height nor the mode; and without a command the sampler alone. -/
theorem nonFiringPassLeavesDecoderAndControllerAlone :
    Obligations.NonFiringPassLeavesDecoderAndControllerAlone := by
  intro line dn up target valid s hquiet
  refine ⟨runPass Config.params line dn up target valid s, rfl, ?_⟩
  rw [runPass_of_not_fired dn up target valid (firedFlag_bne_eq_false_iff.mpr hquiet)]
  refine ⟨?window, ?height, ?mode, ?idle⟩
  case window | height | mode => simp [samplerStage_eq]
  case idle =>
    rintro rfl
    have hnoCommand (u : State) : commandStage Config.params target false u = u := rfl
    simp [hnoCommand, samplerStage_eq, Observation.blank]

/-! ## Totality and RESET (R185, R200) -/

/-- Settles O7: a step is one operation, and every operation is total. -/
theorem everyStepHasANextState : Obligations.EveryStepHasANextState := step_next

/-- RESET as its one write of the whole block (R185). -/
theorem resetBlock_eq (s : State) : resetBlock s = {
    State.reset with
    rst := s.rst
    piw := s.piw
    stimulus := s.stimulus } := rfl

/-- Settles O46: the block's write is that of the reset state, whose values are the table's. -/
theorem resetWritesEveryElement : Obligations.ResetWritesEveryElement :=
  fun s => congrArg Host.Outcome.next (resetBlock_eq s)

end Sys2Proof.Machine

/-! # Status egress (46_status_egress.md R190, R216) -/

namespace Sys2Proof.Machine

/-! ## The check in each case of R190 -/

section
variable {timer : BitVec 23}

theorem publishDue_of_elapsed (helapsed : 5000000 ≤ timer.toNat + 1) : publishDue timer = true :=
  decide_eq_true (Config.pubPasses_eq ▸ helapsed)

theorem publishDue_of_counting (hcounting : timer.toNat + 1 < 5000000) :
    publishDue timer = false :=
  decide_eq_false (Nat.not_le.mpr (Config.pubPasses_eq ▸ hcounting))

/-- A check strobes exactly when the height is another than the published one. -/
theorem publishes_of_elapsed (cur last : BitVec 8) (helapsed : 5000000 ≤ timer.toNat + 1) :
    publishes timer cur last = (cur != last) := by
  rw [publishes, publishDue_of_elapsed helapsed, Bool.true_and]

theorem publishes_of_counting (cur last : BitVec 8) (hcounting : timer.toNat + 1 < 5000000) :
    publishes timer cur last = false := by
  rw [publishes, publishDue_of_counting hcounting, Bool.false_and]

theorem timer_succ_toNat_of_counting (hcounting : timer.toNat + 1 < 5000000) :
    (timer + 1#23).toNat = timer.toNat + 1 :=
  BitVec.toNat_add_of_lt (hcounting.trans (by decide))

end

variable {i : Instr} {s t : State}

/-- Settles O35: the two cases of the timer, and at the interval's end the two of the height. -/
theorem publishChecksAtTheEndOfTheInterval : Obligations.PublishChecksAtTheEndOfTheInterval := by
  intro s
  refine ⟨publish s, rfl, rfl, fun hcounting => ?_, fun helapsed hchanged => ?_,
    fun helapsed hsame => ?_⟩
  · simp [publishDue_of_counting hcounting, publishes_of_counting _ _ hcounting,
      timer_succ_toNat_of_counting hcounting]
  · simp [publishDue_of_elapsed helapsed, publishes_of_elapsed _ _ helapsed, hchanged]
  · simp [publishDue_of_elapsed helapsed, publishes_of_elapsed _ _ helapsed, hsame]

/-! ## The timer and the strobe in a run -/

/-- What an operation can do to the timer and the strobe: PUBLISH, alone or in a pass, counts or
checks; RESET clears both; any other operation leaves both. -/
theorem exec_egress_cases (hexec : exec i s = .next t) :
    (t.pubTimer = (publish s).pubTimer ∧
      t.obs.pubStrobe = publishes s.pubTimer t.curHeight s.lastPub) ∨
    (t.pubTimer = 0#23 ∧ t.obs.pubStrobe = false) ∨
    (t.pubTimer = s.pubTimer ∧ t.obs.pubStrobe = s.obs.pubStrobe) := by
  cases i <;> obtain rfl := Host.Outcome.next.inj hexec
  case publish => exact .inl ⟨rfl, rfl⟩
  case pass => exact .inl ⟨runPass_pubTimer .., runPass_obs_pubStrobe ..⟩
  case reset => exact .inr (.inl ⟨rfl, rfl⟩)
  case accept c => exact .inr (.inr ⟨accept_pubTimer c s, accept_obs_pubStrobe c s⟩)
  case decode bit =>
    exact .inr (.inr ⟨decodeBit_pubTimer _ bit s, decodeBit_obs_pubStrobe _ bit s⟩)
  case settarget n => exact .inr (.inr ⟨setTarget_pubTimer _ n s, setTarget_obs_pubStrobe _ n s⟩)
  case switch upN downN =>
    exact .inr (.inr ⟨switchInput_pubTimer upN downN s, switchInput_obs_pubStrobe upN downN s⟩)
  case ctltick => exact .inr (.inr ⟨ctlTick_pubTimer s, ctlTick_obs_pubStrobe s⟩)
  case frame | edge | tick | sample | pushbit | checkmatch | extract | enterUp | enterDown | stop =>
    exact .inr (.inr ⟨rfl, rfl⟩)

theorem publish_pubTimer_le (s : State) : (publish s).pubTimer.toNat ≤ s.pubTimer.toNat + 1 := by
  rw [publish_pubTimer]
  split
  · exact Nat.zero_le _
  · exact (BitVec.toNat_add ..).trans_le (Nat.mod_le _ _)

theorem step_pubTimer_le (hstep : step s = .next t) :
    t.pubTimer.toNat ≤ s.pubTimer.toNat + 1 := by
  rw [← fetchState_pubTimer s]
  rcases exec_egress_cases hstep with ⟨htimer, -⟩ | ⟨htimer, -⟩ | ⟨htimer, -⟩ <;> rw [htimer]
  · exact publish_pubTimer_le _
  · exact Nat.zero_le _
  · exact Nat.le_succ _

/-- Before the interval's end no step strobes: there is no check, and a strobe of the step before
is forgotten (R32). -/
theorem step_pubStrobe_of_counting (hcounting : s.pubTimer.toNat + 1 < 5000000)
    (hstep : step s = .next t) : t.obs.pubStrobe = false := by
  rcases exec_egress_cases hstep with ⟨-, hstrobe⟩ | ⟨-, hstrobe⟩ | ⟨-, hstrobe⟩
  · rw [hstrobe, fetchState_pubTimer, publishes_of_counting _ _ hcounting]
  · exact hstrobe
  · rw [hstrobe, fetchState_obs, Observation.blank]

/-- A run advances the timer by at most one a step. -/
theorem run_pubTimer_le (k : Nat) (s : State) :
    ∃ t, Host.Core.run Sys2Proof.core k s = .next t ∧ t.pubTimer.toNat ≤ s.pubTimer.toNat + k := by
  induction k generalizing s with
  | zero => exact ⟨s, rfl, le_rfl⟩
  | succ k ih =>
    obtain ⟨u, hstep⟩ := step_next s
    obtain ⟨t, hrun, htimer⟩ := ih u
    have hfirst := step_pubTimer_le hstep
    exact ⟨t, (run_of_step k hstep).trans hrun, by omega⟩

/-- Settles O36: before the last of the `k` steps the timer is at most `k - 1`, so that this step is
no check. -/
theorem strobesAreAtLeastAnIntervalApart : Obligations.StrobesAreAtLeastAnIntervalApart := by
  intro s k hzero hpos hk
  obtain ⟨j, rfl⟩ : ∃ j, k = j + 1 := ⟨k - 1, by omega⟩
  obtain ⟨u, hrun, htimer⟩ := run_pubTimer_le j s
  obtain ⟨t, hstep⟩ := step_next u
  rw [hzero, BitVec.toNat_zero] at htimer
  exact ⟨t, run_snoc hrun hstep, step_pubStrobe_of_counting (by omega) hstep⟩

end Sys2Proof.Machine
